-- ==== Sys2Proof/Word.lean ====
section
/-!
DEFINITION. The word types of the machine (R9): a byte is 8 bits, a word 16, a longword 32, a quad 64. Longwords are
the registers' width, so they carry the short name.
-/

namespace Sys2Proof

/-- 8 bits (R9). -/
abbrev Byte := BitVec 8

/-- 16 bits: one code unit of an instruction, or a word operand (R9). -/
abbrev Half := BitVec 16

/-- 32 bits: a longword, the width of every register and address (R9). -/
abbrev Word := BitVec 32

/-- 64 bits: a pair of floating-point registers, MACH:MACL, a double-longword operand (R9). -/
abbrev Quad := BitVec 64

end Sys2Proof
end

