-- ==== Sys2Proof/Syntax.lean ====
section
/-!
DEFINITION. Abstract syntax: one constructor per row of spec/opcode_table.json, in the table's order but for
the instructions without operands, which come last.
Operand order is source before destination before immediate before displacement, as the assembler writes them (R137);
`m` is the source register field, `n` the destination register field, `i` an immediate, `d` a displacement field,
which is the encoded, unscaled value (R138).
-/

namespace Sys2Proof

/-- A general register number, R0 to R15 (R122). -/
abbrev GReg := BitVec 4

/-- A single-precision register number, FR0 to FR15 (R122). -/
abbrev FReg := BitVec 4

/-- A pair field of a double-precision operand: the register number of the pair's high half, printed nnn0.
The field keeps all four bits of the encoding; an odd value is not well formed (R41, R146). -/
abbrev DReg := BitVec 4

/-- The 253 instructions of the SH-2A / SH2A-FPU (R3). -/
inductive Instr where
  -- Data transfer (spec/40_data_transfer.md)
  /-- `MOV #imm,Rn` (R201). -/
  | movImm (n : GReg) (i : BitVec 8)
  /-- `MOV.W @(disp,PC),Rn` (R202). -/
  | movWPcRel (n : GReg) (d : BitVec 8)
  /-- `MOV.L @(disp,PC),Rn` (R203). -/
  | movLPcRel (n : GReg) (d : BitVec 8)
  /-- `MOV Rm,Rn` (R204). -/
  | movReg (m : GReg) (n : GReg)
  /-- `MOV.B Rm,@Rn` (R205). -/
  | movBStore (m : GReg) (n : GReg)
  /-- `MOV.W Rm,@Rn` (R206). -/
  | movWStore (m : GReg) (n : GReg)
  /-- `MOV.L Rm,@Rn` (R207). -/
  | movLStore (m : GReg) (n : GReg)
  /-- `MOV.B @Rm,Rn` (R208). -/
  | movBLoad (m : GReg) (n : GReg)
  /-- `MOV.W @Rm,Rn` (R209). -/
  | movWLoad (m : GReg) (n : GReg)
  /-- `MOV.L @Rm,Rn` (R210). -/
  | movLLoad (m : GReg) (n : GReg)
  /-- `MOV.B Rm,@-Rn` (R213). -/
  | movBStorePreDec (m : GReg) (n : GReg)
  /-- `MOV.W Rm,@-Rn` (R214). -/
  | movWStorePreDec (m : GReg) (n : GReg)
  /-- `MOV.L Rm,@-Rn` (R215). -/
  | movLStorePreDec (m : GReg) (n : GReg)
  /-- `MOV.B @Rm+,Rn` (R216). -/
  | movBLoadPostInc (m : GReg) (n : GReg)
  /-- `MOV.W @Rm+,Rn` (R217). -/
  | movWLoadPostInc (m : GReg) (n : GReg)
  /-- `MOV.L @Rm+,Rn` (R218). -/
  | movLLoadPostInc (m : GReg) (n : GReg)
  /-- `MOV.B R0,@(disp,Rn)` (R219). -/
  | movBStoreDisp4 (n : GReg) (d : BitVec 4)
  /-- `MOV.W R0,@(disp,Rn)` (R220). -/
  | movWStoreDisp4 (n : GReg) (d : BitVec 4)
  /-- `MOV.L Rm,@(disp,Rn)` (R221). -/
  | movLStoreDisp4 (m : GReg) (n : GReg) (d : BitVec 4)
  /-- `MOV.B @(disp,Rm),R0` (R222). -/
  | movBLoadDisp4 (m : GReg) (d : BitVec 4)
  /-- `MOV.W @(disp,Rm),R0` (R223). -/
  | movWLoadDisp4 (m : GReg) (d : BitVec 4)
  /-- `MOV.L @(disp,Rm),Rn` (R224). -/
  | movLLoadDisp4 (m : GReg) (n : GReg) (d : BitVec 4)
  /-- `MOV.B Rm,@(R0,Rn)` (R225). -/
  | movBStoreIdx (m : GReg) (n : GReg)
  /-- `MOV.W Rm,@(R0,Rn)` (R226). -/
  | movWStoreIdx (m : GReg) (n : GReg)
  /-- `MOV.L Rm,@(R0,Rn)` (R227). -/
  | movLStoreIdx (m : GReg) (n : GReg)
  /-- `MOV.B @(R0,Rm),Rn` (R228). -/
  | movBLoadIdx (m : GReg) (n : GReg)
  /-- `MOV.W @(R0,Rm),Rn` (R229). -/
  | movWLoadIdx (m : GReg) (n : GReg)
  /-- `MOV.L @(R0,Rm),Rn` (R230). -/
  | movLLoadIdx (m : GReg) (n : GReg)
  /-- `MOV.B R0,@(disp,GBR)` (R231). -/
  | movBStoreGbr (d : BitVec 8)
  /-- `MOV.W R0,@(disp,GBR)` (R232). -/
  | movWStoreGbr (d : BitVec 8)
  /-- `MOV.L R0,@(disp,GBR)` (R233). -/
  | movLStoreGbr (d : BitVec 8)
  /-- `MOV.B @(disp,GBR),R0` (R234). -/
  | movBLoadGbr (d : BitVec 8)
  /-- `MOV.W @(disp,GBR),R0` (R235). -/
  | movWLoadGbr (d : BitVec 8)
  /-- `MOV.L @(disp,GBR),R0` (R236). -/
  | movLLoadGbr (d : BitVec 8)
  /-- `MOV.B R0,@Rn+` (R237). -/
  | movBStorePostInc (n : GReg)
  /-- `MOV.W R0,@Rn+` (R238). -/
  | movWStorePostInc (n : GReg)
  /-- `MOV.L R0,@Rn+` (R239). -/
  | movLStorePostInc (n : GReg)
  /-- `MOV.B @-Rm,R0` (R240). -/
  | movBLoadPreDec (m : GReg)
  /-- `MOV.W @-Rm,R0` (R241). -/
  | movWLoadPreDec (m : GReg)
  /-- `MOV.L @-Rm,R0` (R242). -/
  | movLLoadPreDec (m : GReg)
  /-- `MOV.B Rm,@(disp12,Rn)` (R243). -/
  | movBStoreDisp12 (m : GReg) (n : GReg) (d : BitVec 12)
  /-- `MOV.W Rm,@(disp12,Rn)` (R244). -/
  | movWStoreDisp12 (m : GReg) (n : GReg) (d : BitVec 12)
  /-- `MOV.L Rm,@(disp12,Rn)` (R245). -/
  | movLStoreDisp12 (m : GReg) (n : GReg) (d : BitVec 12)
  /-- `MOV.B @(disp12,Rm),Rn` (R246). -/
  | movBLoadDisp12 (m : GReg) (n : GReg) (d : BitVec 12)
  /-- `MOV.W @(disp12,Rm),Rn` (R247). -/
  | movWLoadDisp12 (m : GReg) (n : GReg) (d : BitVec 12)
  /-- `MOV.L @(disp12,Rm),Rn` (R248). -/
  | movLLoadDisp12 (m : GReg) (n : GReg) (d : BitVec 12)
  /-- `MOVU.B @(disp12,Rm),Rn` (R259). -/
  | movuBLoadDisp12 (m : GReg) (n : GReg) (d : BitVec 12)
  /-- `MOVU.W @(disp12,Rm),Rn` (R260). -/
  | movuWLoadDisp12 (m : GReg) (n : GReg) (d : BitVec 12)
  /-- `MOVA @(disp,PC),R0` (R249). -/
  | mova (d : BitVec 8)
  /-- `MOVI20 #imm20,Rn` (R250). -/
  | movi20 (n : GReg) (i : BitVec 20)
  /-- `MOVI20S #imm20,Rn` (R251). -/
  | movi20s (n : GReg) (i : BitVec 20)
  /-- `MOVML.L Rm,@-R15` (R252). -/
  | movmlPush (m : GReg)
  /-- `MOVML.L @R15+,Rn` (R253). -/
  | movmlPop (n : GReg)
  /-- `MOVMU.L Rm,@-R15` (R254). -/
  | movmuPush (m : GReg)
  /-- `MOVMU.L @R15+,Rn` (R255). -/
  | movmuPop (n : GReg)
  /-- `MOVRT Rn` (R257). -/
  | movrt (n : GReg)
  /-- `MOVT Rn` (R258). -/
  | movt (n : GReg)
  /-- `PREF @Rn` (R262). -/
  | pref (n : GReg)
  /-- `SWAP.B Rm,Rn` (R263). -/
  | swapB (m : GReg) (n : GReg)
  /-- `SWAP.W Rm,Rn` (R264). -/
  | swapW (m : GReg) (n : GReg)
  /-- `XTRCT Rm,Rn` (R265). -/
  | xtrct (m : GReg) (n : GReg)
  -- Arithmetic (spec/41_arithmetic.md)
  /-- `ADD Rm,Rn` (R301). -/
  | add (m : GReg) (n : GReg)
  /-- `ADD #imm,Rn` (R302). -/
  | addImm (n : GReg) (i : BitVec 8)
  /-- `ADDC Rm,Rn` (R303). -/
  | addc (m : GReg) (n : GReg)
  /-- `ADDV Rm,Rn` (R304). -/
  | addv (m : GReg) (n : GReg)
  /-- `NEG Rm,Rn` (R338). -/
  | neg (m : GReg) (n : GReg)
  /-- `NEGC Rm,Rn` (R339). -/
  | negc (m : GReg) (n : GReg)
  /-- `SUB Rm,Rn` (R340). -/
  | sub (m : GReg) (n : GReg)
  /-- `SUBC Rm,Rn` (R341). -/
  | subc (m : GReg) (n : GReg)
  /-- `SUBV Rm,Rn` (R342). -/
  | subv (m : GReg) (n : GReg)
  /-- `CMP/EQ #imm,R0` (R305). -/
  | cmpEqImm (i : BitVec 8)
  /-- `CMP/EQ Rm,Rn` (R306). -/
  | cmpEq (m : GReg) (n : GReg)
  /-- `CMP/HS Rm,Rn` (R307). -/
  | cmpHs (m : GReg) (n : GReg)
  /-- `CMP/GE Rm,Rn` (R308). -/
  | cmpGe (m : GReg) (n : GReg)
  /-- `CMP/HI Rm,Rn` (R309). -/
  | cmpHi (m : GReg) (n : GReg)
  /-- `CMP/GT Rm,Rn` (R310). -/
  | cmpGt (m : GReg) (n : GReg)
  /-- `CMP/PL Rn` (R311). -/
  | cmpPl (n : GReg)
  /-- `CMP/PZ Rn` (R312). -/
  | cmpPz (n : GReg)
  /-- `CMP/STR Rm,Rn` (R313). -/
  | cmpStr (m : GReg) (n : GReg)
  /-- `DT Rn` (R327). -/
  | dt (n : GReg)
  /-- `CLIPS.B Rn` (R314). -/
  | clipsB (n : GReg)
  /-- `CLIPS.W Rn` (R315). -/
  | clipsW (n : GReg)
  /-- `CLIPU.B Rn` (R316). -/
  | clipuB (n : GReg)
  /-- `CLIPU.W Rn` (R317). -/
  | clipuW (n : GReg)
  /-- `EXTS.B Rm,Rn` (R328). -/
  | extsB (m : GReg) (n : GReg)
  /-- `EXTS.W Rm,Rn` (R329). -/
  | extsW (m : GReg) (n : GReg)
  /-- `EXTU.B Rm,Rn` (R332). -/
  | extuB (m : GReg) (n : GReg)
  /-- `EXTU.W Rm,Rn` (R333). -/
  | extuW (m : GReg) (n : GReg)
  /-- `DIV0S Rm,Rn` (R318). -/
  | div0s (m : GReg) (n : GReg)
  /-- `DIV1 Rm,Rn` (R320). -/
  | div1 (m : GReg) (n : GReg)
  /-- `DIVS R0,Rn` (R322). -/
  | divs (n : GReg)
  /-- `DIVU R0,Rn` (R323). -/
  | divu (n : GReg)
  /-- `DMULS.L Rm,Rn` (R325). -/
  | dmulsL (m : GReg) (n : GReg)
  /-- `DMULU.L Rm,Rn` (R326). -/
  | dmuluL (m : GReg) (n : GReg)
  /-- `MUL.L Rm,Rn` (R334). -/
  | mulL (m : GReg) (n : GReg)
  /-- `MULR R0,Rn` (R335). -/
  | mulr (n : GReg)
  /-- `MAC.L @Rm+,@Rn+` (R330). -/
  | macL (m : GReg) (n : GReg)
  -- Logic (spec/42_logic.md)
  /-- `AND Rm,Rn` (R362). -/
  | andReg (m : GReg) (n : GReg)
  /-- `AND #imm,R0` (R363). -/
  | andImm (i : BitVec 8)
  /-- `AND.B #imm,@(R0,GBR)` (R364). -/
  | andBGbr (i : BitVec 8)
  /-- `NOT Rm,Rn` (R365). -/
  | notReg (m : GReg) (n : GReg)
  /-- `OR Rm,Rn` (R366). -/
  | orReg (m : GReg) (n : GReg)
  /-- `OR #imm,R0` (R367). -/
  | orImm (i : BitVec 8)
  /-- `OR.B #imm,@(R0,GBR)` (R368). -/
  | orBGbr (i : BitVec 8)
  /-- `TAS.B @Rn` (R370). -/
  | tasB (n : GReg)
  /-- `TST Rm,Rn` (R371). -/
  | tstReg (m : GReg) (n : GReg)
  /-- `TST #imm,R0` (R372). -/
  | tstImm (i : BitVec 8)
  /-- `TST.B #imm,@(R0,GBR)` (R373). -/
  | tstBGbr (i : BitVec 8)
  /-- `XOR Rm,Rn` (R374). -/
  | xorReg (m : GReg) (n : GReg)
  /-- `XOR #imm,R0` (R375). -/
  | xorImm (i : BitVec 8)
  /-- `XOR.B #imm,@(R0,GBR)` (R376). -/
  | xorBGbr (i : BitVec 8)
  -- Shifts (spec/43_shift.md)
  /-- `ROTL Rn` (R391). -/
  | rotl (n : GReg)
  /-- `ROTR Rn` (R392). -/
  | rotr (n : GReg)
  /-- `ROTCL Rn` (R393). -/
  | rotcl (n : GReg)
  /-- `ROTCR Rn` (R394). -/
  | rotcr (n : GReg)
  /-- `SHAL Rn` (R395). -/
  | shal (n : GReg)
  /-- `SHAR Rn` (R396). -/
  | shar (n : GReg)
  /-- `SHLL Rn` (R397). -/
  | shll (n : GReg)
  /-- `SHLR Rn` (R398). -/
  | shlr (n : GReg)
  /-- `SHLL2 Rn` (R399). -/
  | shll2 (n : GReg)
  /-- `SHLL8 Rn` (R400). -/
  | shll8 (n : GReg)
  /-- `SHLL16 Rn` (R401). -/
  | shll16 (n : GReg)
  /-- `SHLR2 Rn` (R402). -/
  | shlr2 (n : GReg)
  /-- `SHLR8 Rn` (R403). -/
  | shlr8 (n : GReg)
  /-- `SHLR16 Rn` (R404). -/
  | shlr16 (n : GReg)
  /-- `SHAD Rm,Rn` (R405). -/
  | shad (m : GReg) (n : GReg)
  /-- `SHLD Rm,Rn` (R406). -/
  | shld (m : GReg) (n : GReg)
  -- Branches (spec/44_branch.md)
  /-- `BF label` (R425). -/
  | bf (d : BitVec 8)
  /-- `BF/S label` (R426). -/
  | bfS (d : BitVec 8)
  /-- `BT label` (R427). -/
  | bt (d : BitVec 8)
  /-- `BT/S label` (R428). -/
  | btS (d : BitVec 8)
  /-- `BRA label` (R429). -/
  | bra (d : BitVec 12)
  /-- `BRAF Rm` (R430). -/
  | braf (m : GReg)
  /-- `JMP @Rm` (R431). -/
  | jmp (m : GReg)
  /-- `BSR label` (R432). -/
  | bsr (d : BitVec 12)
  /-- `BSRF Rm` (R433). -/
  | bsrf (m : GReg)
  /-- `JSR @Rm` (R434). -/
  | jsr (m : GReg)
  /-- `JSR/N @@(disp8,TBR)` (R436). -/
  | jsrNTbr (d : BitVec 8)
  /-- `JSR/N @Rm` (R437). -/
  | jsrN (m : GReg)
  /-- `RTV/N Rm` (R439). -/
  | rtvN (m : GReg)
  /-- `LDC Rm,SR` (R455). -/
  | ldcSr (m : GReg)
  /-- `LDC Rm,GBR` (R456). -/
  | ldcGbr (m : GReg)
  /-- `LDC Rm,VBR` (R457). -/
  | ldcVbr (m : GReg)
  /-- `LDC Rm,TBR` (R458). -/
  | ldcTbr (m : GReg)
  /-- `LDC.L @Rm+,SR` (R459). -/
  | ldcLSr (m : GReg)
  /-- `LDC.L @Rm+,GBR` (R460). -/
  | ldcLGbr (m : GReg)
  /-- `LDC.L @Rm+,VBR` (R461). -/
  | ldcLVbr (m : GReg)
  /-- `LDS Rm,MACH` (R462). -/
  | ldsMach (m : GReg)
  /-- `LDS Rm,MACL` (R463). -/
  | ldsMacl (m : GReg)
  /-- `LDS Rm,PR` (R464). -/
  | ldsPr (m : GReg)
  /-- `LDS.L @Rm+,MACH` (R465). -/
  | ldsLMach (m : GReg)
  /-- `LDS.L @Rm+,MACL` (R466). -/
  | ldsLMacl (m : GReg)
  /-- `LDS.L @Rm+,PR` (R467). -/
  | ldsLPr (m : GReg)
  /-- `TRAPA #imm` (R472). -/
  | trapa (i : BitVec 8)
  /-- `STC SR,Rn` (R473). -/
  | stcSr (n : GReg)
  /-- `STC GBR,Rn` (R474). -/
  | stcGbr (n : GReg)
  /-- `STC VBR,Rn` (R475). -/
  | stcVbr (n : GReg)
  /-- `STC TBR,Rn` (R476). -/
  | stcTbr (n : GReg)
  /-- `STC.L SR,@-Rn` (R477). -/
  | stcLSr (n : GReg)
  /-- `STC.L GBR,@-Rn` (R478). -/
  | stcLGbr (n : GReg)
  /-- `STC.L VBR,@-Rn` (R479). -/
  | stcLVbr (n : GReg)
  /-- `STS MACH,Rn` (R480). -/
  | stsMach (n : GReg)
  /-- `STS MACL,Rn` (R481). -/
  | stsMacl (n : GReg)
  /-- `STS PR,Rn` (R482). -/
  | stsPr (n : GReg)
  /-- `STS.L MACH,@-Rn` (R488). -/
  | stsLMach (n : GReg)
  /-- `STS.L MACL,@-Rn` (R489). -/
  | stsLMacl (n : GReg)
  /-- `STS.L PR,@-Rn` (R490). -/
  | stsLPr (n : GReg)
  /-- `LDBANK @Rm,R0` (R486). -/
  | ldbank (m : GReg)
  /-- `STBANK R0,@Rn` (R487). -/
  | stbank (n : GReg)
  -- Bit manipulation (spec/48_bit_manipulation.md)
  /-- `BAND.B #imm3,@(disp12,Rn)` (R603). -/
  | bandB (n : GReg) (i : BitVec 3) (d : BitVec 12)
  /-- `BANDNOT.B #imm3,@(disp12,Rn)` (R604). -/
  | bandnotB (n : GReg) (i : BitVec 3) (d : BitVec 12)
  /-- `BOR.B #imm3,@(disp12,Rn)` (R605). -/
  | borB (n : GReg) (i : BitVec 3) (d : BitVec 12)
  /-- `BORNOT.B #imm3,@(disp12,Rn)` (R606). -/
  | bornotB (n : GReg) (i : BitVec 3) (d : BitVec 12)
  /-- `BXOR.B #imm3,@(disp12,Rn)` (R607). -/
  | bxorB (n : GReg) (i : BitVec 3) (d : BitVec 12)
  /-- `BLD.B #imm3,@(disp12,Rn)` (R608). -/
  | bldB (n : GReg) (i : BitVec 3) (d : BitVec 12)
  /-- `BLD #imm3,Rn` (R609). -/
  | bldReg (n : GReg) (i : BitVec 3)
  /-- `BLDNOT.B #imm3,@(disp12,Rn)` (R610). -/
  | bldnotB (n : GReg) (i : BitVec 3) (d : BitVec 12)
  /-- `BCLR.B #imm3,@(disp12,Rn)` (R611). -/
  | bclrB (n : GReg) (i : BitVec 3) (d : BitVec 12)
  /-- `BCLR #imm3,Rn` (R612). -/
  | bclrReg (n : GReg) (i : BitVec 3)
  /-- `BSET.B #imm3,@(disp12,Rn)` (R613). -/
  | bsetB (n : GReg) (i : BitVec 3) (d : BitVec 12)
  /-- `BSET #imm3,Rn` (R614). -/
  | bsetReg (n : GReg) (i : BitVec 3)
  /-- `BST.B #imm3,@(disp12,Rn)` (R615). -/
  | bstB (n : GReg) (i : BitVec 3) (d : BitVec 12)
  /-- `BST #imm3,Rn` (R616). -/
  | bstReg (n : GReg) (i : BitVec 3)
  -- 16-bit multiplies (spec/41_arithmetic.md)
  /-- `MULS.W Rm,Rn` (R336). -/
  | mulsW (m : GReg) (n : GReg)
  /-- `MULU.W Rm,Rn` (R337). -/
  | muluW (m : GReg) (n : GReg)
  /-- `MAC.W @Rm+,@Rn+` (R331). -/
  | macW (m : GReg) (n : GReg)
  -- Floating-point arithmetic (spec/46_floating_point.md)
  /-- `FABS FRn` (R512). -/
  | fabsFR (n : FReg)
  /-- `FABS DRn` (R512). -/
  | fabsDR (n : DReg)
  /-- `FADD FRm,FRn` (R514). -/
  | faddFR (m : FReg) (n : FReg)
  /-- `FADD DRm,DRn` (R514). -/
  | faddDR (m : DReg) (n : DReg)
  /-- `FCMP/EQ FRm,FRn` (R521). -/
  | fcmpEqFR (m : FReg) (n : FReg)
  /-- `FCMP/EQ DRm,DRn` (R521). -/
  | fcmpEqDR (m : DReg) (n : DReg)
  /-- `FCMP/GT FRm,FRn` (R522). -/
  | fcmpGtFR (m : FReg) (n : FReg)
  /-- `FCMP/GT DRm,DRn` (R522). -/
  | fcmpGtDR (m : DReg) (n : DReg)
  /-- `FCNVDS DRm,FPUL` (R523). -/
  | fcnvds (m : DReg)
  /-- `FCNVSD FPUL,DRn` (R524). -/
  | fcnvsd (n : DReg)
  /-- `FDIV FRm,FRn` (R517). -/
  | fdivFR (m : FReg) (n : FReg)
  /-- `FDIV DRm,DRn` (R517). -/
  | fdivDR (m : DReg) (n : DReg)
  /-- `FLOAT FPUL,FRn` (R530). -/
  | floatFR (n : FReg)
  /-- `FLOAT FPUL,DRn` (R530). -/
  | floatDR (n : DReg)
  /-- `FMAC FR0,FRm,FRn` (R518). -/
  | fmac (m : FReg) (n : FReg)
  /-- `FMUL FRm,FRn` (R516). -/
  | fmulFR (m : FReg) (n : FReg)
  /-- `FMUL DRm,DRn` (R516). -/
  | fmulDR (m : DReg) (n : DReg)
  /-- `FNEG FRn` (R513). -/
  | fnegFR (n : FReg)
  /-- `FNEG DRn` (R513). -/
  | fnegDR (n : DReg)
  /-- `FSQRT FRn` (R536). -/
  | fsqrtFR (n : FReg)
  /-- `FSQRT DRn` (R536). -/
  | fsqrtDR (n : DReg)
  /-- `FSUB FRm,FRn` (R515). -/
  | fsubFR (m : FReg) (n : FReg)
  /-- `FSUB DRm,DRn` (R515). -/
  | fsubDR (m : DReg) (n : DReg)
  /-- `FTRC FRm,FPUL` (R531). -/
  | ftrcFR (m : FReg)
  /-- `FTRC DRm,FPUL` (R531). -/
  | ftrcDR (m : DReg)
  -- Floating-point transfers and FPU-related CPU instructions (spec/47_fpu_transfer.md)
  /-- `FMOV FRm,FRn` (R562). -/
  | fmovFR (m : FReg) (n : FReg)
  /-- `FMOV DRm,DRn` (R563). -/
  | fmovDR (m : DReg) (n : DReg)
  /-- `FMOV.S FRm,@Rn` (R564). -/
  | fmovSStore (m : FReg) (n : GReg)
  /-- `FMOV.D DRm,@Rn` (R565). -/
  | fmovDStore (m : DReg) (n : GReg)
  /-- `FMOV.S @Rm,FRn` (R566). -/
  | fmovSLoad (m : GReg) (n : FReg)
  /-- `FMOV.D @Rm,DRn` (R567). -/
  | fmovDLoad (m : GReg) (n : DReg)
  /-- `FMOV.S @Rm+,FRn` (R568). -/
  | fmovSLoadPostInc (m : GReg) (n : FReg)
  /-- `FMOV.D @Rm+,DRn` (R569). -/
  | fmovDLoadPostInc (m : GReg) (n : DReg)
  /-- `FMOV.S FRm,@-Rn` (R570). -/
  | fmovSStorePreDec (m : FReg) (n : GReg)
  /-- `FMOV.D DRm,@-Rn` (R571). -/
  | fmovDStorePreDec (m : DReg) (n : GReg)
  /-- `FMOV.S @(R0,Rm),FRn` (R572). -/
  | fmovSLoadIdx (m : GReg) (n : FReg)
  /-- `FMOV.D @(R0,Rm),DRn` (R573). -/
  | fmovDLoadIdx (m : GReg) (n : DReg)
  /-- `FMOV.S FRm,@(R0,Rn)` (R574). -/
  | fmovSStoreIdx (m : FReg) (n : GReg)
  /-- `FMOV.D DRm,@(R0,Rn)` (R574). -/
  | fmovDStoreIdx (m : DReg) (n : GReg)
  /-- `FMOV.S FRm,@(disp12,Rn)` (R575). -/
  | fmovSStoreDisp12 (m : FReg) (n : GReg) (d : BitVec 12)
  /-- `FMOV.D DRm,@(disp12,Rn)` (R576). -/
  | fmovDStoreDisp12 (m : DReg) (n : GReg) (d : BitVec 12)
  /-- `FMOV.S @(disp12,Rm),FRn` (R577). -/
  | fmovSLoadDisp12 (m : GReg) (n : FReg) (d : BitVec 12)
  /-- `FMOV.D @(disp12,Rm),DRn` (R578). -/
  | fmovDLoadDisp12 (m : GReg) (n : DReg) (d : BitVec 12)
  /-- `FLDS FRm,FPUL` (R579). -/
  | flds (m : FReg)
  /-- `FSTS FPUL,FRn` (R580). -/
  | fsts (n : FReg)
  /-- `FLDI0 FRn` (R581). -/
  | fldi0 (n : FReg)
  /-- `FLDI1 FRn` (R582). -/
  | fldi1 (n : FReg)
  /-- `LDS Rm,FPUL` (R584). -/
  | ldsFpul (m : GReg)
  /-- `LDS.L @Rm+,FPUL` (R585). -/
  | ldsLFpul (m : GReg)
  /-- `LDS Rm,FPSCR` (R586). -/
  | ldsFpscr (m : GReg)
  /-- `LDS.L @Rm+,FPSCR` (R587). -/
  | ldsLFpscr (m : GReg)
  /-- `STS FPUL,Rn` (R588). -/
  | stsFpul (n : GReg)
  /-- `STS FPSCR,Rn` (R589). -/
  | stsFpscr (n : GReg)
  /-- `STS.L FPUL,@-Rn` (R590). -/
  | stsLFpul (n : GReg)
  /-- `STS.L FPSCR,@-Rn` (R591). -/
  | stsLFpscr (n : GReg)
  -- Instructions without operands, last (the compiler limits how many constructors with operands may come first)
  /-- `NOTT` (R261). -/
  | nott
  /-- `DIV0U` (R319). -/
  | div0u
  /-- `RTS` (R435). -/
  | rts
  /-- `RTS/N` (R438). -/
  | rtsN
  -- System control (spec/45_system_control.md)
  /-- `CLRT` (R451). -/
  | clrt
  /-- `SETT` (R452). -/
  | sett
  /-- `CLRMAC` (R453). -/
  | clrmac
  /-- `NOP` (R454). -/
  | nop
  /-- `RTE` (R470). -/
  | rte
  /-- `SLEEP` (R471). -/
  | sleep
  /-- `RESBANK` (R485). -/
  | resbank
  /-- `FSCHG` (R583). -/
  | fschg
deriving DecidableEq, Repr

end Sys2Proof
end

