-- ==== Sys2Proof/Decode.lean ====
section
/-!
DEFINITION. The decoder and the encoder, both written from the assignment of the code space in R124, R125, R127 and the
encoding columns of spec/opcode_table.json. An encoding is read as four nibbles `a b c d`, most significant first (R121).
A code that no row assigns is refused by name (R126, R140); no code falls through to a neighbour (R128).
-/

namespace Sys2Proof

/-- The two FPSCR bits that select between the single and the pair form of one code (R41, R129). -/
structure FpMode where
  /-- FPSCR.PR: arithmetic forms are double precision. -/
  pr : Bool
  /-- FPSCR.SZ: FMOV moves a pair. -/
  sz : Bool
deriving DecidableEq, Repr

/-- The mode right after a power-on reset: PR = 0, SZ = 0 (R43). -/
def FpMode.atReset : FpMode := ⟨false, false⟩

/-- Nibble `k` of a code unit, nibble 0 the least significant (R121). -/
def nibble (w : Half) (k : Nat) : BitVec 4 := w.extractLsb' (4 * k) 4

/-! ### Sixteen-bit codes, one map per top nibble (R127) -/

/-- Codes with top nibble `0000` (R127). -/
def decodeClass0 (b c d : BitVec 4) : Option Instr :=
  match d.toNat with
  | 0x2 => match c.toNat with
    | 0x0 => some (.stcSr b)
    | 0x1 => some (.stcGbr b)
    | 0x2 => some (.stcVbr b)
    | _ => none
  | 0x3 => match c.toNat with
    | 0x0 => some (.bsrf b)
    | 0x2 => some (.braf b)
    | 0x8 => some (.pref b)
    | _ => none
  | 0x4 => some (.movBStoreIdx c b)
  | 0x5 => some (.movWStoreIdx c b)
  | 0x6 => some (.movLStoreIdx c b)
  | 0x7 => some (.mulL c b)
  | 0x8 => match c.toNat with
    | 0x0 => match b.toNat with
      | 0x0 => some .clrt
      | _ => none
    | 0x1 => match b.toNat with
      | 0x0 => some .sett
      | _ => none
    | 0x2 => match b.toNat with
      | 0x0 => some .clrmac
      | _ => none
    | 0x6 => match b.toNat with
      | 0x0 => some .nott
      | _ => none
    | _ => none
  | 0x9 => match c.toNat with
    | 0x0 => match b.toNat with
      | 0x0 => some .nop
      | _ => none
    | 0x1 => match b.toNat with
      | 0x0 => some .div0u
      | _ => none
    | 0x2 => some (.movt b)
    | 0x3 => some (.movrt b)
    | _ => none
  | 0xA => match c.toNat with
    | 0x0 => some (.stsMach b)
    | 0x1 => some (.stsMacl b)
    | 0x2 => some (.stsPr b)
    | 0x4 => some (.stcTbr b)
    | 0x5 => some (.stsFpul b)
    | 0x6 => some (.stsFpscr b)
    | _ => none
  | 0xB => match c.toNat with
    | 0x0 => match b.toNat with
      | 0x0 => some .rts
      | _ => none
    | 0x1 => match b.toNat with
      | 0x0 => some .sleep
      | _ => none
    | 0x2 => match b.toNat with
      | 0x0 => some .rte
      | _ => none
    | 0x5 => match b.toNat with
      | 0x0 => some .resbank
      | _ => none
    | 0x6 => match b.toNat with
      | 0x0 => some .rtsN
      | _ => none
    | 0x7 => some (.rtvN b)
    | _ => none
  | 0xC => some (.movBLoadIdx c b)
  | 0xD => some (.movWLoadIdx c b)
  | 0xE => some (.movLLoadIdx c b)
  | 0xF => some (.macL c b)
  | _ => none

/-- Codes with top nibble `0010` (R127). -/
def decodeClass2 (b c d : BitVec 4) : Option Instr :=
  match d.toNat with
  | 0x0 => some (.movBStore c b)
  | 0x1 => some (.movWStore c b)
  | 0x2 => some (.movLStore c b)
  | 0x4 => some (.movBStorePreDec c b)
  | 0x5 => some (.movWStorePreDec c b)
  | 0x6 => some (.movLStorePreDec c b)
  | 0x7 => some (.div0s c b)
  | 0x8 => some (.tstReg c b)
  | 0x9 => some (.andReg c b)
  | 0xA => some (.xorReg c b)
  | 0xB => some (.orReg c b)
  | 0xC => some (.cmpStr c b)
  | 0xD => some (.xtrct c b)
  | 0xE => some (.muluW c b)
  | 0xF => some (.mulsW c b)
  | _ => none

/-- Codes with top nibble `0011` (R127). -/
def decodeClass3 (b c d : BitVec 4) : Option Instr :=
  match d.toNat with
  | 0x0 => some (.cmpEq c b)
  | 0x2 => some (.cmpHs c b)
  | 0x3 => some (.cmpGe c b)
  | 0x4 => some (.div1 c b)
  | 0x5 => some (.dmuluL c b)
  | 0x6 => some (.cmpHi c b)
  | 0x7 => some (.cmpGt c b)
  | 0x8 => some (.sub c b)
  | 0xA => some (.subc c b)
  | 0xB => some (.subv c b)
  | 0xC => some (.add c b)
  | 0xD => some (.dmulsL c b)
  | 0xE => some (.addc c b)
  | 0xF => some (.addv c b)
  | _ => none

/-- Codes with top nibble `0100` (R127). -/
def decodeClass4 (b c d : BitVec 4) : Option Instr :=
  match d.toNat with
  | 0x0 => match c.toNat with
    | 0x0 => some (.shll b)
    | 0x1 => some (.dt b)
    | 0x2 => some (.shal b)
    | 0x8 => some (.mulr b)
    | 0xF => some (.movmuPush b)
    | _ => none
  | 0x1 => match c.toNat with
    | 0x0 => some (.shlr b)
    | 0x1 => some (.cmpPz b)
    | 0x2 => some (.shar b)
    | 0x8 => some (.clipuB b)
    | 0x9 => some (.clipsB b)
    | 0xE => some (.stbank b)
    | 0xF => some (.movmlPush b)
    | _ => none
  | 0x2 => match c.toNat with
    | 0x0 => some (.stsLMach b)
    | 0x1 => some (.stsLMacl b)
    | 0x2 => some (.stsLPr b)
    | 0x5 => some (.stsLFpul b)
    | 0x6 => some (.stsLFpscr b)
    | _ => none
  | 0x3 => match c.toNat with
    | 0x0 => some (.stcLSr b)
    | 0x1 => some (.stcLGbr b)
    | 0x2 => some (.stcLVbr b)
    | _ => none
  | 0x4 => match c.toNat with
    | 0x0 => some (.rotl b)
    | 0x2 => some (.rotcl b)
    | 0x8 => some (.divu b)
    | 0x9 => some (.divs b)
    | 0xF => some (.movmuPop b)
    | _ => none
  | 0x5 => match c.toNat with
    | 0x0 => some (.rotr b)
    | 0x1 => some (.cmpPl b)
    | 0x2 => some (.rotcr b)
    | 0x8 => some (.clipuW b)
    | 0x9 => some (.clipsW b)
    | 0xE => some (.ldbank b)
    | 0xF => some (.movmlPop b)
    | _ => none
  | 0x6 => match c.toNat with
    | 0x0 => some (.ldsLMach b)
    | 0x1 => some (.ldsLMacl b)
    | 0x2 => some (.ldsLPr b)
    | 0x5 => some (.ldsLFpul b)
    | 0x6 => some (.ldsLFpscr b)
    | _ => none
  | 0x7 => match c.toNat with
    | 0x0 => some (.ldcLSr b)
    | 0x1 => some (.ldcLGbr b)
    | 0x2 => some (.ldcLVbr b)
    | _ => none
  | 0x8 => match c.toNat with
    | 0x0 => some (.shll2 b)
    | 0x1 => some (.shll8 b)
    | 0x2 => some (.shll16 b)
    | _ => none
  | 0x9 => match c.toNat with
    | 0x0 => some (.shlr2 b)
    | 0x1 => some (.shlr8 b)
    | 0x2 => some (.shlr16 b)
    | _ => none
  | 0xA => match c.toNat with
    | 0x0 => some (.ldsMach b)
    | 0x1 => some (.ldsMacl b)
    | 0x2 => some (.ldsPr b)
    | 0x4 => some (.ldcTbr b)
    | 0x5 => some (.ldsFpul b)
    | 0x6 => some (.ldsFpscr b)
    | _ => none
  | 0xB => match c.toNat with
    | 0x0 => some (.jsr b)
    | 0x1 => some (.tasB b)
    | 0x2 => some (.jmp b)
    | 0x4 => some (.jsrN b)
    | 0x8 => some (.movBStorePostInc b)
    | 0x9 => some (.movWStorePostInc b)
    | 0xA => some (.movLStorePostInc b)
    | 0xC => some (.movBLoadPreDec b)
    | 0xD => some (.movWLoadPreDec b)
    | 0xE => some (.movLLoadPreDec b)
    | _ => none
  | 0xC => some (.shad c b)
  | 0xD => some (.shld c b)
  | 0xE => match c.toNat with
    | 0x0 => some (.ldcSr b)
    | 0x1 => some (.ldcGbr b)
    | 0x2 => some (.ldcVbr b)
    | _ => none
  | 0xF => some (.macW c b)
  | _ => none

/-- Codes with top nibble `0110` (R127). -/
def decodeClass6 (b c d : BitVec 4) : Option Instr :=
  match d.toNat with
  | 0x0 => some (.movBLoad c b)
  | 0x1 => some (.movWLoad c b)
  | 0x2 => some (.movLLoad c b)
  | 0x3 => some (.movReg c b)
  | 0x4 => some (.movBLoadPostInc c b)
  | 0x5 => some (.movWLoadPostInc c b)
  | 0x6 => some (.movLLoadPostInc c b)
  | 0x7 => some (.notReg c b)
  | 0x8 => some (.swapB c b)
  | 0x9 => some (.swapW c b)
  | 0xA => some (.negc c b)
  | 0xB => some (.neg c b)
  | 0xC => some (.extuB c b)
  | 0xD => some (.extuW c b)
  | 0xE => some (.extsB c b)
  | 0xF => some (.extsW c b)
  | _ => none

/-- Codes with top nibble `1000` (R127). -/
def decodeClass8 (b c d : BitVec 4) : Option Instr :=
  match b.toNat with
  | 0x0 => some (.movBStoreDisp4 c d)
  | 0x1 => some (.movWStoreDisp4 c d)
  | 0x3 => some (.jsrNTbr (c ++ d))
  | 0x4 => some (.movBLoadDisp4 c d)
  | 0x5 => some (.movWLoadDisp4 c d)
  | 0x6 => if d.getLsbD 3 then some (.bsetReg c (d.extractLsb' 0 3)) else some (.bclrReg c (d.extractLsb' 0 3))
  | 0x7 => if d.getLsbD 3 then some (.bldReg c (d.extractLsb' 0 3)) else some (.bstReg c (d.extractLsb' 0 3))
  | 0x8 => some (.cmpEqImm (c ++ d))
  | 0x9 => some (.bt (c ++ d))
  | 0xB => some (.bf (c ++ d))
  | 0xD => some (.btS (c ++ d))
  | 0xF => some (.bfS (c ++ d))
  | _ => none

/-- Codes with top nibble `1100` (R127). -/
def decodeClassC (b c d : BitVec 4) : Option Instr :=
  match b.toNat with
  | 0x0 => some (.movBStoreGbr (c ++ d))
  | 0x1 => some (.movWStoreGbr (c ++ d))
  | 0x2 => some (.movLStoreGbr (c ++ d))
  | 0x3 => some (.trapa (c ++ d))
  | 0x4 => some (.movBLoadGbr (c ++ d))
  | 0x5 => some (.movWLoadGbr (c ++ d))
  | 0x6 => some (.movLLoadGbr (c ++ d))
  | 0x7 => some (.mova (c ++ d))
  | 0x8 => some (.tstImm (c ++ d))
  | 0x9 => some (.andImm (c ++ d))
  | 0xA => some (.xorImm (c ++ d))
  | 0xB => some (.orImm (c ++ d))
  | 0xC => some (.tstBGbr (c ++ d))
  | 0xD => some (.andBGbr (c ++ d))
  | 0xE => some (.xorBGbr (c ++ d))
  | 0xF => some (.orBGbr (c ++ d))
  | _ => none

/-- Codes with top nibble `1111` (R127). -/
def decodeClassF (md : FpMode) (b c d : BitVec 4) : Option Instr :=
  match d.toNat with
  | 0x0 => some (if md.pr then .faddDR c b else .faddFR c b)
  | 0x1 => some (if md.pr then .fsubDR c b else .fsubFR c b)
  | 0x2 => some (if md.pr then .fmulDR c b else .fmulFR c b)
  | 0x3 => some (if md.pr then .fdivDR c b else .fdivFR c b)
  | 0x4 => some (if md.pr then .fcmpEqDR c b else .fcmpEqFR c b)
  | 0x5 => some (if md.pr then .fcmpGtDR c b else .fcmpGtFR c b)
  | 0x6 => some (if md.sz then .fmovDLoadIdx c b else .fmovSLoadIdx c b)
  | 0x7 => some (if md.sz then .fmovDStoreIdx c b else .fmovSStoreIdx c b)
  | 0x8 => some (if md.sz then .fmovDLoad c b else .fmovSLoad c b)
  | 0x9 => some (if md.sz then .fmovDLoadPostInc c b else .fmovSLoadPostInc c b)
  | 0xA => some (if md.sz then .fmovDStore c b else .fmovSStore c b)
  | 0xB => some (if md.sz then .fmovDStorePreDec c b else .fmovSStorePreDec c b)
  | 0xC => some (if md.sz then .fmovDR c b else .fmovFR c b)
  | 0xD => match c.toNat with
    | 0x0 => some (.fsts b)
    | 0x1 => some (.flds b)
    | 0x2 => some (if md.pr then .floatDR b else .floatFR b)
    | 0x3 => some (if md.pr then .ftrcDR b else .ftrcFR b)
    | 0x4 => some (if md.pr then .fnegDR b else .fnegFR b)
    | 0x5 => some (if md.pr then .fabsDR b else .fabsFR b)
    | 0x6 => some (if md.pr then .fsqrtDR b else .fsqrtFR b)
    | 0x8 => some (.fldi0 b)
    | 0x9 => some (.fldi1 b)
    | 0xA => some (.fcnvsd b)
    | 0xB => some (.fcnvds b)
    | 0xF => match b.toNat with
      | 0x3 => some .fschg
      | _ => none
    | _ => none
  | 0xE => some (.fmac c b)
  | _ => none

/-- The instruction a sixteen-bit code stands for, or none for an undefined code (R127, R140). -/
def decode16 (md : FpMode) (w : Half) : Option Instr :=
  let b := nibble w 2
  let c := nibble w 1
  let d := nibble w 0
  match (nibble w 3).toNat with
  | 0x0 => decodeClass0 b c d
  | 0x1 => some (.movLStoreDisp4 c b d)
  | 0x2 => decodeClass2 b c d
  | 0x3 => decodeClass3 b c d
  | 0x4 => decodeClass4 b c d
  | 0x5 => some (.movLLoadDisp4 c b d)
  | 0x6 => decodeClass6 b c d
  | 0x7 => some (.addImm b (c ++ d))
  | 0x8 => decodeClass8 b c d
  | 0x9 => some (.movWPcRel b (c ++ d))
  | 0xA => some (.bra (b ++ c ++ d))
  | 0xB => some (.bsr (b ++ c ++ d))
  | 0xC => decodeClassC b c d
  | 0xD => some (.movLPcRel b (c ++ d))
  | 0xE => some (.movImm b (c ++ d))
  | 0xF => decodeClassF md b c d
  | _ => none

/-! ### Thirty-two-bit codes (R124, R125) -/

/-- Whether a first word announces a 32-bit instruction (R124). -/
def isLong (w : Half) : Bool :=
  match (nibble w 3).toNat with
  | 0x0 => (nibble w 0).toNat == 0 || (nibble w 0).toNat == 1
  | 0x3 => (nibble w 0).toNat == 1 || ((nibble w 0).toNat == 9 && !(nibble w 1).getLsbD 3)
  | _ => false

/-- The 12-bit-displacement transfers, by the selector of the second word (R125). -/
def decodeDisp12 (md : FpMode) (b c sel : BitVec 4) (disp : BitVec 12) : Option Instr :=
  match sel.toNat with
  | 0x0 => some (.movBStoreDisp12 c b disp)
  | 0x1 => some (.movWStoreDisp12 c b disp)
  | 0x2 => some (.movLStoreDisp12 c b disp)
  | 0x3 => some (if md.sz then .fmovDStoreDisp12 c b disp else .fmovSStoreDisp12 c b disp)
  | 0x4 => some (.movBLoadDisp12 c b disp)
  | 0x5 => some (.movWLoadDisp12 c b disp)
  | 0x6 => some (.movLLoadDisp12 c b disp)
  | 0x7 => some (if md.sz then .fmovDLoadDisp12 c b disp else .fmovSLoadDisp12 c b disp)
  | 0x8 => some (.movuBLoadDisp12 c b disp)
  | 0x9 => some (.movuWLoadDisp12 c b disp)
  | _ => none

/-- The bit instructions on memory, by the selector of the second word (R125). -/
def decodeBitDisp12 (b c sel : BitVec 4) (disp : BitVec 12) : Option Instr :=
  match sel.toNat with
  | 0x0 => some (.bclrB b (c.extractLsb' 0 3) disp)
  | 0x1 => some (.bsetB b (c.extractLsb' 0 3) disp)
  | 0x2 => some (.bstB b (c.extractLsb' 0 3) disp)
  | 0x3 => some (.bldB b (c.extractLsb' 0 3) disp)
  | 0x4 => some (.bandB b (c.extractLsb' 0 3) disp)
  | 0x5 => some (.borB b (c.extractLsb' 0 3) disp)
  | 0x6 => some (.bxorB b (c.extractLsb' 0 3) disp)
  | 0xB => some (.bldnotB b (c.extractLsb' 0 3) disp)
  | 0xC => some (.bandnotB b (c.extractLsb' 0 3) disp)
  | 0xD => some (.bornotB b (c.extractLsb' 0 3) disp)
  | _ => none

/-- The instruction a 32-bit code stands for, or none for an undefined code (R125, R126). -/
def decode32 (md : FpMode) (w1 w2 : Half) : Option Instr :=
  let b := nibble w1 2
  let c := nibble w1 1
  let sel := nibble w2 3
  let disp := w2.extractLsb' 0 12
  match (nibble w1 3).toNat with
  | 0x0 =>
    match (nibble w1 0).toNat with
    | 0x0 => some (.movi20 b (c ++ w2))
    | 0x1 => some (.movi20s b (c ++ w2))
    | _ => none
  | 0x3 =>
    match (nibble w1 0).toNat with
    | 0x1 => decodeDisp12 md b c sel disp
    | 0x9 => if c.getLsbD 3 then none else decodeBitDisp12 b c sel disp
    | _ => none
  | _ => none

/-! ### Bytes -/

/-- What the decoder makes of a byte sequence. -/
inductive Decoded where
  /-- An instruction, and the bytes after it. -/
  | instruction (i : Instr) (rest : List Byte)
  /-- A sixteen-bit code that no row of the opcode table assigns (R140). -/
  | undefined16 (w : Half)
  /-- A 32-bit code whose second word no row assigns (R126). -/
  | undefined32 (w1 w2 : Half)
  /-- The bytes end before the instruction does. -/
  | truncated
deriving DecidableEq, Repr

/-- Decodes the instruction at the front of a byte sequence; each code unit is big-endian (R83) and the length is decided
by the first word alone (R124). -/
def decode (md : FpMode) : List Byte → Decoded
  | b0 :: b1 :: rest =>
    if isLong (b0 ++ b1) then
      match rest with
      | b2 :: b3 :: rest' =>
        match decode32 md (b0 ++ b1) (b2 ++ b3) with
        | some i => .instruction i rest'
        | none => .undefined32 (b0 ++ b1) (b2 ++ b3)
      | _ => .truncated
    else
      match decode16 md (b0 ++ b1) with
      | some i => .instruction i rest
      | none => .undefined16 (b0 ++ b1)
  | _ => .truncated

/-! ### The encoder -/

/-- A code unit from four nibbles (R121). -/
def nibbles (a b c d : BitVec 4) : Half := a ++ b ++ c ++ d

/-- A code unit from two nibbles and a byte (R123, formats ni, nd8, i, d). -/
def nibbles8 (a b : BitVec 4) (x : BitVec 8) : Half := a ++ b ++ x

/-- A code unit from one nibble and twelve bits (R123, format d12). -/
def nibbles12 (a : BitVec 4) (x : BitVec 12) : Half := a ++ x

/-- A bit number below a nibble's top bit (R123, formats ni3 and nid). -/
def bitNibble (top : BitVec 1) (i : BitVec 3) : BitVec 4 := top ++ i

/-- The code units of an instruction, from the encoding column of spec/opcode_table.json. -/
def encode : Instr → List Half
  | .movImm n i => [nibbles8 0xE n i]
  | .movWPcRel n d => [nibbles8 0x9 n d]
  | .movLPcRel n d => [nibbles8 0xD n d]
  | .movReg m n => [nibbles 0x6 n m 0x3]
  | .movBStore m n => [nibbles 0x2 n m 0x0]
  | .movWStore m n => [nibbles 0x2 n m 0x1]
  | .movLStore m n => [nibbles 0x2 n m 0x2]
  | .movBLoad m n => [nibbles 0x6 n m 0x0]
  | .movWLoad m n => [nibbles 0x6 n m 0x1]
  | .movLLoad m n => [nibbles 0x6 n m 0x2]
  | .movBStorePreDec m n => [nibbles 0x2 n m 0x4]
  | .movWStorePreDec m n => [nibbles 0x2 n m 0x5]
  | .movLStorePreDec m n => [nibbles 0x2 n m 0x6]
  | .movBLoadPostInc m n => [nibbles 0x6 n m 0x4]
  | .movWLoadPostInc m n => [nibbles 0x6 n m 0x5]
  | .movLLoadPostInc m n => [nibbles 0x6 n m 0x6]
  | .movBStoreDisp4 n d => [nibbles 0x8 0x0 n d]
  | .movWStoreDisp4 n d => [nibbles 0x8 0x1 n d]
  | .movLStoreDisp4 m n d => [nibbles 0x1 n m d]
  | .movBLoadDisp4 m d => [nibbles 0x8 0x4 m d]
  | .movWLoadDisp4 m d => [nibbles 0x8 0x5 m d]
  | .movLLoadDisp4 m n d => [nibbles 0x5 n m d]
  | .movBStoreIdx m n => [nibbles 0x0 n m 0x4]
  | .movWStoreIdx m n => [nibbles 0x0 n m 0x5]
  | .movLStoreIdx m n => [nibbles 0x0 n m 0x6]
  | .movBLoadIdx m n => [nibbles 0x0 n m 0xC]
  | .movWLoadIdx m n => [nibbles 0x0 n m 0xD]
  | .movLLoadIdx m n => [nibbles 0x0 n m 0xE]
  | .movBStoreGbr d => [nibbles8 0xC 0x0 d]
  | .movWStoreGbr d => [nibbles8 0xC 0x1 d]
  | .movLStoreGbr d => [nibbles8 0xC 0x2 d]
  | .movBLoadGbr d => [nibbles8 0xC 0x4 d]
  | .movWLoadGbr d => [nibbles8 0xC 0x5 d]
  | .movLLoadGbr d => [nibbles8 0xC 0x6 d]
  | .movBStorePostInc n => [nibbles 0x4 n 0x8 0xB]
  | .movWStorePostInc n => [nibbles 0x4 n 0x9 0xB]
  | .movLStorePostInc n => [nibbles 0x4 n 0xA 0xB]
  | .movBLoadPreDec m => [nibbles 0x4 m 0xC 0xB]
  | .movWLoadPreDec m => [nibbles 0x4 m 0xD 0xB]
  | .movLLoadPreDec m => [nibbles 0x4 m 0xE 0xB]
  | .movBStoreDisp12 m n d => [nibbles 0x3 n m 0x1, nibbles12 0x0 d]
  | .movWStoreDisp12 m n d => [nibbles 0x3 n m 0x1, nibbles12 0x1 d]
  | .movLStoreDisp12 m n d => [nibbles 0x3 n m 0x1, nibbles12 0x2 d]
  | .movBLoadDisp12 m n d => [nibbles 0x3 n m 0x1, nibbles12 0x4 d]
  | .movWLoadDisp12 m n d => [nibbles 0x3 n m 0x1, nibbles12 0x5 d]
  | .movLLoadDisp12 m n d => [nibbles 0x3 n m 0x1, nibbles12 0x6 d]
  | .movuBLoadDisp12 m n d => [nibbles 0x3 n m 0x1, nibbles12 0x8 d]
  | .movuWLoadDisp12 m n d => [nibbles 0x3 n m 0x1, nibbles12 0x9 d]
  | .mova d => [nibbles8 0xC 0x7 d]
  | .movi20 n i => [nibbles 0x0 n (i.extractLsb' 16 4) 0x0, i.extractLsb' 0 16]
  | .movi20s n i => [nibbles 0x0 n (i.extractLsb' 16 4) 0x1, i.extractLsb' 0 16]
  | .movmlPush m => [nibbles 0x4 m 0xF 0x1]
  | .movmlPop n => [nibbles 0x4 n 0xF 0x5]
  | .movmuPush m => [nibbles 0x4 m 0xF 0x0]
  | .movmuPop n => [nibbles 0x4 n 0xF 0x4]
  | .movrt n => [nibbles 0x0 n 0x3 0x9]
  | .movt n => [nibbles 0x0 n 0x2 0x9]
  | .nott => [nibbles 0x0 0x0 0x6 0x8]
  | .pref n => [nibbles 0x0 n 0x8 0x3]
  | .swapB m n => [nibbles 0x6 n m 0x8]
  | .swapW m n => [nibbles 0x6 n m 0x9]
  | .xtrct m n => [nibbles 0x2 n m 0xD]
  | .add m n => [nibbles 0x3 n m 0xC]
  | .addImm n i => [nibbles8 0x7 n i]
  | .addc m n => [nibbles 0x3 n m 0xE]
  | .addv m n => [nibbles 0x3 n m 0xF]
  | .neg m n => [nibbles 0x6 n m 0xB]
  | .negc m n => [nibbles 0x6 n m 0xA]
  | .sub m n => [nibbles 0x3 n m 0x8]
  | .subc m n => [nibbles 0x3 n m 0xA]
  | .subv m n => [nibbles 0x3 n m 0xB]
  | .cmpEqImm i => [nibbles8 0x8 0x8 i]
  | .cmpEq m n => [nibbles 0x3 n m 0x0]
  | .cmpHs m n => [nibbles 0x3 n m 0x2]
  | .cmpGe m n => [nibbles 0x3 n m 0x3]
  | .cmpHi m n => [nibbles 0x3 n m 0x6]
  | .cmpGt m n => [nibbles 0x3 n m 0x7]
  | .cmpPl n => [nibbles 0x4 n 0x1 0x5]
  | .cmpPz n => [nibbles 0x4 n 0x1 0x1]
  | .cmpStr m n => [nibbles 0x2 n m 0xC]
  | .dt n => [nibbles 0x4 n 0x1 0x0]
  | .clipsB n => [nibbles 0x4 n 0x9 0x1]
  | .clipsW n => [nibbles 0x4 n 0x9 0x5]
  | .clipuB n => [nibbles 0x4 n 0x8 0x1]
  | .clipuW n => [nibbles 0x4 n 0x8 0x5]
  | .extsB m n => [nibbles 0x6 n m 0xE]
  | .extsW m n => [nibbles 0x6 n m 0xF]
  | .extuB m n => [nibbles 0x6 n m 0xC]
  | .extuW m n => [nibbles 0x6 n m 0xD]
  | .div0s m n => [nibbles 0x2 n m 0x7]
  | .div0u => [nibbles 0x0 0x0 0x1 0x9]
  | .div1 m n => [nibbles 0x3 n m 0x4]
  | .divs n => [nibbles 0x4 n 0x9 0x4]
  | .divu n => [nibbles 0x4 n 0x8 0x4]
  | .dmulsL m n => [nibbles 0x3 n m 0xD]
  | .dmuluL m n => [nibbles 0x3 n m 0x5]
  | .mulL m n => [nibbles 0x0 n m 0x7]
  | .mulr n => [nibbles 0x4 n 0x8 0x0]
  | .macL m n => [nibbles 0x0 n m 0xF]
  | .andReg m n => [nibbles 0x2 n m 0x9]
  | .andImm i => [nibbles8 0xC 0x9 i]
  | .andBGbr i => [nibbles8 0xC 0xD i]
  | .notReg m n => [nibbles 0x6 n m 0x7]
  | .orReg m n => [nibbles 0x2 n m 0xB]
  | .orImm i => [nibbles8 0xC 0xB i]
  | .orBGbr i => [nibbles8 0xC 0xF i]
  | .tasB n => [nibbles 0x4 n 0x1 0xB]
  | .tstReg m n => [nibbles 0x2 n m 0x8]
  | .tstImm i => [nibbles8 0xC 0x8 i]
  | .tstBGbr i => [nibbles8 0xC 0xC i]
  | .xorReg m n => [nibbles 0x2 n m 0xA]
  | .xorImm i => [nibbles8 0xC 0xA i]
  | .xorBGbr i => [nibbles8 0xC 0xE i]
  | .rotl n => [nibbles 0x4 n 0x0 0x4]
  | .rotr n => [nibbles 0x4 n 0x0 0x5]
  | .rotcl n => [nibbles 0x4 n 0x2 0x4]
  | .rotcr n => [nibbles 0x4 n 0x2 0x5]
  | .shal n => [nibbles 0x4 n 0x2 0x0]
  | .shar n => [nibbles 0x4 n 0x2 0x1]
  | .shll n => [nibbles 0x4 n 0x0 0x0]
  | .shlr n => [nibbles 0x4 n 0x0 0x1]
  | .shll2 n => [nibbles 0x4 n 0x0 0x8]
  | .shll8 n => [nibbles 0x4 n 0x1 0x8]
  | .shll16 n => [nibbles 0x4 n 0x2 0x8]
  | .shlr2 n => [nibbles 0x4 n 0x0 0x9]
  | .shlr8 n => [nibbles 0x4 n 0x1 0x9]
  | .shlr16 n => [nibbles 0x4 n 0x2 0x9]
  | .shad m n => [nibbles 0x4 n m 0xC]
  | .shld m n => [nibbles 0x4 n m 0xD]
  | .bf d => [nibbles8 0x8 0xB d]
  | .bfS d => [nibbles8 0x8 0xF d]
  | .bt d => [nibbles8 0x8 0x9 d]
  | .btS d => [nibbles8 0x8 0xD d]
  | .bra d => [nibbles12 0xA d]
  | .braf m => [nibbles 0x0 m 0x2 0x3]
  | .jmp m => [nibbles 0x4 m 0x2 0xB]
  | .bsr d => [nibbles12 0xB d]
  | .bsrf m => [nibbles 0x0 m 0x0 0x3]
  | .jsr m => [nibbles 0x4 m 0x0 0xB]
  | .rts => [nibbles 0x0 0x0 0x0 0xB]
  | .jsrNTbr d => [nibbles8 0x8 0x3 d]
  | .jsrN m => [nibbles 0x4 m 0x4 0xB]
  | .rtsN => [nibbles 0x0 0x0 0x6 0xB]
  | .rtvN m => [nibbles 0x0 m 0x7 0xB]
  | .clrt => [nibbles 0x0 0x0 0x0 0x8]
  | .sett => [nibbles 0x0 0x0 0x1 0x8]
  | .clrmac => [nibbles 0x0 0x0 0x2 0x8]
  | .nop => [nibbles 0x0 0x0 0x0 0x9]
  | .ldcSr m => [nibbles 0x4 m 0x0 0xE]
  | .ldcGbr m => [nibbles 0x4 m 0x1 0xE]
  | .ldcVbr m => [nibbles 0x4 m 0x2 0xE]
  | .ldcTbr m => [nibbles 0x4 m 0x4 0xA]
  | .ldcLSr m => [nibbles 0x4 m 0x0 0x7]
  | .ldcLGbr m => [nibbles 0x4 m 0x1 0x7]
  | .ldcLVbr m => [nibbles 0x4 m 0x2 0x7]
  | .ldsMach m => [nibbles 0x4 m 0x0 0xA]
  | .ldsMacl m => [nibbles 0x4 m 0x1 0xA]
  | .ldsPr m => [nibbles 0x4 m 0x2 0xA]
  | .ldsLMach m => [nibbles 0x4 m 0x0 0x6]
  | .ldsLMacl m => [nibbles 0x4 m 0x1 0x6]
  | .ldsLPr m => [nibbles 0x4 m 0x2 0x6]
  | .rte => [nibbles 0x0 0x0 0x2 0xB]
  | .sleep => [nibbles 0x0 0x0 0x1 0xB]
  | .trapa i => [nibbles8 0xC 0x3 i]
  | .stcSr n => [nibbles 0x0 n 0x0 0x2]
  | .stcGbr n => [nibbles 0x0 n 0x1 0x2]
  | .stcVbr n => [nibbles 0x0 n 0x2 0x2]
  | .stcTbr n => [nibbles 0x0 n 0x4 0xA]
  | .stcLSr n => [nibbles 0x4 n 0x0 0x3]
  | .stcLGbr n => [nibbles 0x4 n 0x1 0x3]
  | .stcLVbr n => [nibbles 0x4 n 0x2 0x3]
  | .stsMach n => [nibbles 0x0 n 0x0 0xA]
  | .stsMacl n => [nibbles 0x0 n 0x1 0xA]
  | .stsPr n => [nibbles 0x0 n 0x2 0xA]
  | .stsLMach n => [nibbles 0x4 n 0x0 0x2]
  | .stsLMacl n => [nibbles 0x4 n 0x1 0x2]
  | .stsLPr n => [nibbles 0x4 n 0x2 0x2]
  | .resbank => [nibbles 0x0 0x0 0x5 0xB]
  | .ldbank m => [nibbles 0x4 m 0xE 0x5]
  | .stbank n => [nibbles 0x4 n 0xE 0x1]
  | .bandB n i d => [nibbles 0x3 n (bitNibble 0 i) 0x9, nibbles12 0x4 d]
  | .bandnotB n i d => [nibbles 0x3 n (bitNibble 0 i) 0x9, nibbles12 0xC d]
  | .borB n i d => [nibbles 0x3 n (bitNibble 0 i) 0x9, nibbles12 0x5 d]
  | .bornotB n i d => [nibbles 0x3 n (bitNibble 0 i) 0x9, nibbles12 0xD d]
  | .bxorB n i d => [nibbles 0x3 n (bitNibble 0 i) 0x9, nibbles12 0x6 d]
  | .bldB n i d => [nibbles 0x3 n (bitNibble 0 i) 0x9, nibbles12 0x3 d]
  | .bldReg n i => [nibbles 0x8 0x7 n (bitNibble 1 i)]
  | .bldnotB n i d => [nibbles 0x3 n (bitNibble 0 i) 0x9, nibbles12 0xB d]
  | .bclrB n i d => [nibbles 0x3 n (bitNibble 0 i) 0x9, nibbles12 0x0 d]
  | .bclrReg n i => [nibbles 0x8 0x6 n (bitNibble 0 i)]
  | .bsetB n i d => [nibbles 0x3 n (bitNibble 0 i) 0x9, nibbles12 0x1 d]
  | .bsetReg n i => [nibbles 0x8 0x6 n (bitNibble 1 i)]
  | .bstB n i d => [nibbles 0x3 n (bitNibble 0 i) 0x9, nibbles12 0x2 d]
  | .bstReg n i => [nibbles 0x8 0x7 n (bitNibble 0 i)]
  | .mulsW m n => [nibbles 0x2 n m 0xF]
  | .muluW m n => [nibbles 0x2 n m 0xE]
  | .macW m n => [nibbles 0x4 n m 0xF]
  | .fabsFR n => [nibbles 0xF n 0x5 0xD]
  | .fabsDR n => [nibbles 0xF n 0x5 0xD]
  | .faddFR m n => [nibbles 0xF n m 0x0]
  | .faddDR m n => [nibbles 0xF n m 0x0]
  | .fcmpEqFR m n => [nibbles 0xF n m 0x4]
  | .fcmpEqDR m n => [nibbles 0xF n m 0x4]
  | .fcmpGtFR m n => [nibbles 0xF n m 0x5]
  | .fcmpGtDR m n => [nibbles 0xF n m 0x5]
  | .fcnvds m => [nibbles 0xF m 0xB 0xD]
  | .fcnvsd n => [nibbles 0xF n 0xA 0xD]
  | .fdivFR m n => [nibbles 0xF n m 0x3]
  | .fdivDR m n => [nibbles 0xF n m 0x3]
  | .floatFR n => [nibbles 0xF n 0x2 0xD]
  | .floatDR n => [nibbles 0xF n 0x2 0xD]
  | .fmac m n => [nibbles 0xF n m 0xE]
  | .fmulFR m n => [nibbles 0xF n m 0x2]
  | .fmulDR m n => [nibbles 0xF n m 0x2]
  | .fnegFR n => [nibbles 0xF n 0x4 0xD]
  | .fnegDR n => [nibbles 0xF n 0x4 0xD]
  | .fsqrtFR n => [nibbles 0xF n 0x6 0xD]
  | .fsqrtDR n => [nibbles 0xF n 0x6 0xD]
  | .fsubFR m n => [nibbles 0xF n m 0x1]
  | .fsubDR m n => [nibbles 0xF n m 0x1]
  | .ftrcFR m => [nibbles 0xF m 0x3 0xD]
  | .ftrcDR m => [nibbles 0xF m 0x3 0xD]
  | .fmovFR m n => [nibbles 0xF n m 0xC]
  | .fmovDR m n => [nibbles 0xF n m 0xC]
  | .fmovSStore m n => [nibbles 0xF n m 0xA]
  | .fmovDStore m n => [nibbles 0xF n m 0xA]
  | .fmovSLoad m n => [nibbles 0xF n m 0x8]
  | .fmovDLoad m n => [nibbles 0xF n m 0x8]
  | .fmovSLoadPostInc m n => [nibbles 0xF n m 0x9]
  | .fmovDLoadPostInc m n => [nibbles 0xF n m 0x9]
  | .fmovSStorePreDec m n => [nibbles 0xF n m 0xB]
  | .fmovDStorePreDec m n => [nibbles 0xF n m 0xB]
  | .fmovSLoadIdx m n => [nibbles 0xF n m 0x6]
  | .fmovDLoadIdx m n => [nibbles 0xF n m 0x6]
  | .fmovSStoreIdx m n => [nibbles 0xF n m 0x7]
  | .fmovDStoreIdx m n => [nibbles 0xF n m 0x7]
  | .fmovSStoreDisp12 m n d => [nibbles 0x3 n m 0x1, nibbles12 0x3 d]
  | .fmovDStoreDisp12 m n d => [nibbles 0x3 n m 0x1, nibbles12 0x3 d]
  | .fmovSLoadDisp12 m n d => [nibbles 0x3 n m 0x1, nibbles12 0x7 d]
  | .fmovDLoadDisp12 m n d => [nibbles 0x3 n m 0x1, nibbles12 0x7 d]
  | .flds m => [nibbles 0xF m 0x1 0xD]
  | .fsts n => [nibbles 0xF n 0x0 0xD]
  | .fldi0 n => [nibbles 0xF n 0x8 0xD]
  | .fldi1 n => [nibbles 0xF n 0x9 0xD]
  | .fschg => [nibbles 0xF 0x3 0xF 0xD]
  | .ldsFpul m => [nibbles 0x4 m 0x5 0xA]
  | .ldsLFpul m => [nibbles 0x4 m 0x5 0x6]
  | .ldsFpscr m => [nibbles 0x4 m 0x6 0xA]
  | .ldsLFpscr m => [nibbles 0x4 m 0x6 0x6]
  | .stsFpul n => [nibbles 0x0 n 0x5 0xA]
  | .stsFpscr n => [nibbles 0x0 n 0x6 0xA]
  | .stsLFpul n => [nibbles 0x4 n 0x5 0x2]
  | .stsLFpscr n => [nibbles 0x4 n 0x6 0x2]

/-- The bytes of code units as memory holds them, each big-endian (R83). -/
def unitBytes : List Half → List Byte
  | [] => []
  | w :: ws => w.extractLsb' 8 8 :: w.extractLsb' 0 8 :: unitBytes ws

/-- Whether the mode bits select this form of its code (R41, R129): the rows with a condition on FPSCR.PR choose between
single and double arithmetic, those with a condition on FPSCR.SZ between FMOV of one register and of a pair. FCNVDS,
FCNVSD, FMAC, FLDI0, FLDI1 and FSCHG share their code with no other row, so every mode selects them; the wrong precision
is their meaning's concern (R506). -/
def Instr.selectedBy (md : FpMode) : Instr → Bool
  | .movImm _ _ => true
  | .movWPcRel _ _ => true
  | .movLPcRel _ _ => true
  | .movReg _ _ => true
  | .movBStore _ _ => true
  | .movWStore _ _ => true
  | .movLStore _ _ => true
  | .movBLoad _ _ => true
  | .movWLoad _ _ => true
  | .movLLoad _ _ => true
  | .movBStorePreDec _ _ => true
  | .movWStorePreDec _ _ => true
  | .movLStorePreDec _ _ => true
  | .movBLoadPostInc _ _ => true
  | .movWLoadPostInc _ _ => true
  | .movLLoadPostInc _ _ => true
  | .movBStoreDisp4 _ _ => true
  | .movWStoreDisp4 _ _ => true
  | .movLStoreDisp4 _ _ _ => true
  | .movBLoadDisp4 _ _ => true
  | .movWLoadDisp4 _ _ => true
  | .movLLoadDisp4 _ _ _ => true
  | .movBStoreIdx _ _ => true
  | .movWStoreIdx _ _ => true
  | .movLStoreIdx _ _ => true
  | .movBLoadIdx _ _ => true
  | .movWLoadIdx _ _ => true
  | .movLLoadIdx _ _ => true
  | .movBStoreGbr _ => true
  | .movWStoreGbr _ => true
  | .movLStoreGbr _ => true
  | .movBLoadGbr _ => true
  | .movWLoadGbr _ => true
  | .movLLoadGbr _ => true
  | .movBStorePostInc _ => true
  | .movWStorePostInc _ => true
  | .movLStorePostInc _ => true
  | .movBLoadPreDec _ => true
  | .movWLoadPreDec _ => true
  | .movLLoadPreDec _ => true
  | .movBStoreDisp12 _ _ _ => true
  | .movWStoreDisp12 _ _ _ => true
  | .movLStoreDisp12 _ _ _ => true
  | .movBLoadDisp12 _ _ _ => true
  | .movWLoadDisp12 _ _ _ => true
  | .movLLoadDisp12 _ _ _ => true
  | .movuBLoadDisp12 _ _ _ => true
  | .movuWLoadDisp12 _ _ _ => true
  | .mova _ => true
  | .movi20 _ _ => true
  | .movi20s _ _ => true
  | .movmlPush _ => true
  | .movmlPop _ => true
  | .movmuPush _ => true
  | .movmuPop _ => true
  | .movrt _ => true
  | .movt _ => true
  | .nott => true
  | .pref _ => true
  | .swapB _ _ => true
  | .swapW _ _ => true
  | .xtrct _ _ => true
  | .add _ _ => true
  | .addImm _ _ => true
  | .addc _ _ => true
  | .addv _ _ => true
  | .neg _ _ => true
  | .negc _ _ => true
  | .sub _ _ => true
  | .subc _ _ => true
  | .subv _ _ => true
  | .cmpEqImm _ => true
  | .cmpEq _ _ => true
  | .cmpHs _ _ => true
  | .cmpGe _ _ => true
  | .cmpHi _ _ => true
  | .cmpGt _ _ => true
  | .cmpPl _ => true
  | .cmpPz _ => true
  | .cmpStr _ _ => true
  | .dt _ => true
  | .clipsB _ => true
  | .clipsW _ => true
  | .clipuB _ => true
  | .clipuW _ => true
  | .extsB _ _ => true
  | .extsW _ _ => true
  | .extuB _ _ => true
  | .extuW _ _ => true
  | .div0s _ _ => true
  | .div0u => true
  | .div1 _ _ => true
  | .divs _ => true
  | .divu _ => true
  | .dmulsL _ _ => true
  | .dmuluL _ _ => true
  | .mulL _ _ => true
  | .mulr _ => true
  | .macL _ _ => true
  | .andReg _ _ => true
  | .andImm _ => true
  | .andBGbr _ => true
  | .notReg _ _ => true
  | .orReg _ _ => true
  | .orImm _ => true
  | .orBGbr _ => true
  | .tasB _ => true
  | .tstReg _ _ => true
  | .tstImm _ => true
  | .tstBGbr _ => true
  | .xorReg _ _ => true
  | .xorImm _ => true
  | .xorBGbr _ => true
  | .rotl _ => true
  | .rotr _ => true
  | .rotcl _ => true
  | .rotcr _ => true
  | .shal _ => true
  | .shar _ => true
  | .shll _ => true
  | .shlr _ => true
  | .shll2 _ => true
  | .shll8 _ => true
  | .shll16 _ => true
  | .shlr2 _ => true
  | .shlr8 _ => true
  | .shlr16 _ => true
  | .shad _ _ => true
  | .shld _ _ => true
  | .bf _ => true
  | .bfS _ => true
  | .bt _ => true
  | .btS _ => true
  | .bra _ => true
  | .braf _ => true
  | .jmp _ => true
  | .bsr _ => true
  | .bsrf _ => true
  | .jsr _ => true
  | .rts => true
  | .jsrNTbr _ => true
  | .jsrN _ => true
  | .rtsN => true
  | .rtvN _ => true
  | .clrt => true
  | .sett => true
  | .clrmac => true
  | .nop => true
  | .ldcSr _ => true
  | .ldcGbr _ => true
  | .ldcVbr _ => true
  | .ldcTbr _ => true
  | .ldcLSr _ => true
  | .ldcLGbr _ => true
  | .ldcLVbr _ => true
  | .ldsMach _ => true
  | .ldsMacl _ => true
  | .ldsPr _ => true
  | .ldsLMach _ => true
  | .ldsLMacl _ => true
  | .ldsLPr _ => true
  | .rte => true
  | .sleep => true
  | .trapa _ => true
  | .stcSr _ => true
  | .stcGbr _ => true
  | .stcVbr _ => true
  | .stcTbr _ => true
  | .stcLSr _ => true
  | .stcLGbr _ => true
  | .stcLVbr _ => true
  | .stsMach _ => true
  | .stsMacl _ => true
  | .stsPr _ => true
  | .stsLMach _ => true
  | .stsLMacl _ => true
  | .stsLPr _ => true
  | .resbank => true
  | .ldbank _ => true
  | .stbank _ => true
  | .bandB _ _ _ => true
  | .bandnotB _ _ _ => true
  | .borB _ _ _ => true
  | .bornotB _ _ _ => true
  | .bxorB _ _ _ => true
  | .bldB _ _ _ => true
  | .bldReg _ _ => true
  | .bldnotB _ _ _ => true
  | .bclrB _ _ _ => true
  | .bclrReg _ _ => true
  | .bsetB _ _ _ => true
  | .bsetReg _ _ => true
  | .bstB _ _ _ => true
  | .bstReg _ _ => true
  | .mulsW _ _ => true
  | .muluW _ _ => true
  | .macW _ _ => true
  | .fabsFR _ => !md.pr
  | .fabsDR _ => md.pr
  | .faddFR _ _ => !md.pr
  | .faddDR _ _ => md.pr
  | .fcmpEqFR _ _ => !md.pr
  | .fcmpEqDR _ _ => md.pr
  | .fcmpGtFR _ _ => !md.pr
  | .fcmpGtDR _ _ => md.pr
  | .fcnvds _ => true
  | .fcnvsd _ => true
  | .fdivFR _ _ => !md.pr
  | .fdivDR _ _ => md.pr
  | .floatFR _ => !md.pr
  | .floatDR _ => md.pr
  | .fmac _ _ => true
  | .fmulFR _ _ => !md.pr
  | .fmulDR _ _ => md.pr
  | .fnegFR _ => !md.pr
  | .fnegDR _ => md.pr
  | .fsqrtFR _ => !md.pr
  | .fsqrtDR _ => md.pr
  | .fsubFR _ _ => !md.pr
  | .fsubDR _ _ => md.pr
  | .ftrcFR _ => !md.pr
  | .ftrcDR _ => md.pr
  | .fmovFR _ _ => !md.sz
  | .fmovDR _ _ => md.sz
  | .fmovSStore _ _ => !md.sz
  | .fmovDStore _ _ => md.sz
  | .fmovSLoad _ _ => !md.sz
  | .fmovDLoad _ _ => md.sz
  | .fmovSLoadPostInc _ _ => !md.sz
  | .fmovDLoadPostInc _ _ => md.sz
  | .fmovSStorePreDec _ _ => !md.sz
  | .fmovDStorePreDec _ _ => md.sz
  | .fmovSLoadIdx _ _ => !md.sz
  | .fmovDLoadIdx _ _ => md.sz
  | .fmovSStoreIdx _ _ => !md.sz
  | .fmovDStoreIdx _ _ => md.sz
  | .fmovSStoreDisp12 _ _ _ => !md.sz
  | .fmovDStoreDisp12 _ _ _ => md.sz
  | .fmovSLoadDisp12 _ _ _ => !md.sz
  | .fmovDLoadDisp12 _ _ _ => md.sz
  | .flds _ => true
  | .fsts _ => true
  | .fldi0 _ => true
  | .fldi1 _ => true
  | .fschg => true
  | .ldsFpul _ => true
  | .ldsLFpul _ => true
  | .ldsFpscr _ => true
  | .ldsLFpscr _ => true
  | .stsFpul _ => true
  | .stsFpscr _ => true
  | .stsLFpul _ => true
  | .stsLFpscr _ => true

/-- The decoder on a row of spec/opcode_table.json as the table numbers its bits: a 32-bit row is the first word above the
second (R121). The mode is the one right after reset, so a code with two forms gives the single one (log 5, log 6). -/
def decodeTableWord (nbits w : Nat) : Option Instr :=
  let words : List Half :=
    if nbits ≤ 16 then [BitVec.ofNat 16 w, 0] else [BitVec.ofNat 16 (w >>> 16), BitVec.ofNat 16 w]
  match decode .atReset (unitBytes words) with
  | .instruction i _ => some i
  | _ => none

end Sys2Proof
end

