-- ==== Sys2Proof/Config.lean ====
section
/-!
DEFINITION. What a product fixes (R8) and what the manual leaves open. `Platform` is the product's parameters; State carries
one, because the step of the interface takes the state alone (log 1). `Config.freeWord` is the source of every value the
manual calls undefined: it has no body, so nothing can be proved of the value it gives (log 7).
-/

namespace Sys2Proof

/-- The value that the manual leaves open, at position `k` of a run's sequence of open values: a free value (log 7). -/
opaque Config.freeWord (k : Nat) : Word

/-- Addresses `first` to `last`, both included. -/
structure AddressRange where
  first : Word
  last : Word
deriving DecidableEq, Repr

/-- Whether an address lies in a range. -/
def AddressRange.holds (r : AddressRange) (a : Word) : Bool := r.first.ule a && a.ule r.last

/-- The parameters of R8 that a product fixes. NBANKS is the length of State's bank store; FPU_STOPPED changes at run time
and is a field of State; MEM is State's memory; IRQ_VECTOR and IRQ_LEVEL come with each request. -/
structure Platform where
  /-- HAS_FPU: SH2A-FPU rather than SH-2A (R8). -/
  hasFpu : Bool
  /-- HAS_BANKS: the product has register banks (R8). -/
  hasBanks : Bool
  /-- HAS_CACHE: PREF reads into an operand cache; it has no architectural effect either way (R8, R104). -/
  hasCache : Bool
  /-- IBCR_ADDR, the address of the bank control register; R8 gives no default (log 15). -/
  ibcrAddr : Option Word
  /-- IBNR_ADDR, the address of the bank number register; R8 gives no default (log 15). -/
  ibnrAddr : Option Word
  /-- FPSCR_MASK, the FPSCR bits that exist (R45, log 18). -/
  fpscrMask : Word
  /-- FetchForbidden: addresses whose fetch is an address error (R86). -/
  fetchForbidden : List AddressRange
  /-- DataForbidden: addresses whose data access is an address error (R86). -/
  dataForbidden : List AddressRange
deriving DecidableEq, Repr

/-- The defaults of R8: an SH2A-FPU with banks, no cache, no forbidden addresses. -/
def Platform.default : Platform where
  hasFpu := true
  hasBanks := true
  hasCache := false
  ibcrAddr := none
  ibnrAddr := none
  fpscrMask := 0x003FFFFF
  fetchForbidden := []
  dataForbidden := []

end Sys2Proof
end

