-- ==== Sys2Proof/Machine/State.lean ====
section
/-!
DEFINITION. The machine's state: every piece of state that spec/10_state.md names, as plain data, and its value after a
power-on reset. INVENTORY.md lists each field with its rule.
-/

namespace Sys2Proof.Machine

open Sys2Proof

/-- Memory: address and byte pairs, addresses strictly rising, no entry equal to what an unlisted address reads as. -/
abbrev Memory := List Host.Cell

/-- What a byte of memory that nothing has written reads as (DESIGN CHOICE, unsafe; log 3). -/
def Memory.unlisted : Byte := 0

/-- The one form in which a memory is written down: addresses strictly rising and below 2^32, and no entry equal to what
an unlisted address reads as, so that equal memories are equal lists. -/
abbrev Memory.wf (m : Memory) : Prop :=
  m.Pairwise (fun x y => x.1 < y.1) ∧ ∀ c ∈ m, c.1 < 2 ^ 32 ∧ c.2 ≠ Memory.unlisted

/-- One register bank: entries 0 to 14 are R0 to R14, 15 GBR, 16 MACH, 17 MACL, 18 PR, 19 VTO (R46, R55, D6). -/
abbrev Bank := Vector Word 20

/-- Where the instruction at the program counter stands (R59(a), R440). -/
inductive Slot where
  /-- Not in a delay slot. -/
  | none
  /-- In the slot of a delayed branch that continues at `target`. -/
  | taken (target : Word)
  /-- After a conditional delayed branch that is not taken: checked as a slot, continues in sequence (D15). -/
  | untaken
deriving DecidableEq, Repr

/-- Program execution, or the low-power state that SLEEP enters (R780). -/
inductive Power where
  | run
  | lowPower
deriving DecidableEq, Repr

/-- The two resets (R800). -/
inductive ResetKind where
  | powerOn
  | manual
deriving DecidableEq, Repr

/-- The vector number of an external interrupt or a peripheral module, 64 to 511, counted from 64 (R8, R711). -/
abbrev SourceVector := Fin 448

/-- An interrupt request as the interrupt controller presents it after its arbitration (R761). -/
inductive IntReq where
  /-- The NMI pin: vector 11, level 16. -/
  | nmi
  /-- The user break controller: vector 12, level 15. -/
  | userBreak
  /-- The user debug interface: vector 14, level 15. -/
  | hudi
  /-- An external interrupt, with the level and vector the product gives it. -/
  | irq (level : BitVec 4) (source : SourceVector)
  /-- An on-chip peripheral module, with the level and vector the product gives it. -/
  | peripheral (level : BitVec 4) (source : SourceVector)
deriving DecidableEq, Repr

/-- What the platform signals to the core at one boundary (R703, R761; log 11). -/
structure Inputs where
  dmacError : Bool
  ramError : Bool
  request : Option IntReq
deriving DecidableEq, Repr

/-- What the environment does at one step, whatever the step is: the bytes that other bus masters write just before it, in
their order, a new FPU_STOPPED, and the two reset lines (R16, R59(f), R781, R800, R802; log 12, log 29, log 35). Its reads
leave no trace. -/
structure Outside where
  writes : List (Word × Byte)
  fpuStopped : Option Bool
  powerOn : Bool
  manual : Bool
deriving DecidableEq, Repr

/-- The reset that the environment asks for: power-on before manual (R701 ranks 1 and 2, R800). -/
def Outside.reset (o : Outside) : Option ResetKind :=
  if o.powerOn then some .powerOn else if o.manual then some .manual else none

/-- The machine. -/
structure State where
  /-- R0 to R15 (R20). -/
  regs : Vector Word 16
  /-- FPR0 to FPR15 (R40). -/
  fregs : Vector Word 16
  /-- The address of the instruction to execute (R24). -/
  pc : Word
  /-- The status register (R27). -/
  sr : Word
  /-- The global base register (R35). -/
  gbr : Word
  /-- The vector base register (R36). -/
  vbr : Word
  /-- The jump table base register (R37). -/
  tbr : Word
  /-- The accumulator's high half (R38). -/
  mach : Word
  /-- The accumulator's low half (R38). -/
  macl : Word
  /-- The procedure register (R39). -/
  pr : Word
  /-- The floating-point communication register (R42). -/
  fpul : Word
  /-- The floating-point status and control register (R43). -/
  fpscr : Word
  /-- The delay-slot state (R59(a)). -/
  slot : Slot
  /-- A CPU address error that has been detected and not yet accepted (R59(b), R750). -/
  held : Bool
  /-- The power state (R780). -/
  power : Power
  /-- The register banks, NBANKS of them (R46). -/
  banks : List Bank
  /-- BN, the bank the next save uses (R47). -/
  bn : Nat
  /-- The bank control register (R48). -/
  ibcr : BitVec 16
  /-- IBNR.BE (R49). -/
  ibnrBe : BitVec 2
  /-- IBNR.BOVE (R49). -/
  ibnrBove : Bool
  /-- FPU_STOPPED, the FPU's module-stop state, which the platform changes at run time (R8, R59(f), log 35). -/
  fpuStopped : Bool
  /-- The address space (R80). -/
  mem : Memory
  /-- What the platform signals at the next boundaries, soonest first (log 11). -/
  inputs : List Inputs
  /-- What the environment does before each of the next steps, soonest first (R16, R802, log 29). -/
  outside : List Outside
  /-- The MODEL's own: how many open values have been drawn (log 7). -/
  freeCount : Nat
  /-- The product's parameters (R8, log 1). -/
  cfg : Platform
deriving DecidableEq, Repr

/-- Why the machine stops. -/
inductive Fault where
  /-- Raised by LDBANK and STBANK when the bank address has a bit of 31-16 or 1-0 set, names a bank that does not exist or
  an entry above 19: "operation is not guaranteed" (R55, U21: stuck). Safe: the model stops where a product may go on. -/
  | bankAddressNotGuaranteed
deriving DecidableEq, Repr

/-- What the model has no meaning for. -/
inductive Refusal where
  /-- An instruction without a meaning, by its mnemonic; no arm raises it now. Safe. -/
  | notModelled (mnemonic : String)
  /-- Raised by a reset of a running machine whose vector lies in an address range forbidden to data accesses; the
  manual does not say what happens (R801, U25: refuse). Safe. -/
  | resetVectorForbidden
deriving DecidableEq, Repr

/-- Right after a power-on reset with memory that lists nothing (R57, R801, R803). The items that the spec gives: pc and
R15 as the longwords at 0 and 4, SR = 0x000000F0 in its defined bits, VBR = 0, FPSCR = 0x00040001, BN = 0, IBNR = IBCR = 0,
no slot, nothing held, Run. Every item it calls undefined is 0 (DESIGN CHOICE, log 2). The product is R8's default. -/
def State.reset : State where
  regs := Vector.replicate 16 0
  fregs := Vector.replicate 16 0
  pc := 0
  sr := 0x000000F0
  gbr := 0
  vbr := 0
  tbr := 0
  mach := 0
  macl := 0
  pr := 0
  fpul := 0
  fpscr := 0x00040001
  slot := .none
  held := false
  power := .run
  banks := List.replicate 15 (Vector.replicate 20 0)
  bn := 0
  ibcr := 0
  ibnrBe := 0
  ibnrBove := false
  fpuStopped := false
  mem := []
  inputs := []
  outside := []
  freeCount := 0
  cfg := .default

end Sys2Proof.Machine
end

