-- ==== Sys2Proof/Machine/Flags.lean ====
section
/-!
DEFINITION. The status register's fields (R27) and every flag computation of the integer instructions. Arithmetic flags
are comparisons of the exact result with the wrapped one.
-/

namespace Sys2Proof.Machine

open Sys2Proof

/-! ### Bits of a longword -/

/-- `w` with bit `k` set to `b`. -/
def withBit (w : Word) (k : Nat) (b : Bool) : Word :=
  if b then w ||| (1#32 <<< k) else w &&& ~~~(1#32 <<< k)

/-- A bit as a longword, 0 or 1. -/
def bitWord (b : Bool) : Word := if b then 1 else 0

/-! ### Fields of SR (R27) -/

/-- The bits of SR that exist; every write of the whole register passes through it (R28, U4). -/
def srMask : Word := 0x000063F3

/-- SR.T, bit 0 (R29). -/
def State.t (s : State) : Bool := s.sr.getLsbD 0

/-- SR.S, bit 1 (R30). -/
def State.sBit (s : State) : Bool := s.sr.getLsbD 1

/-- SR.Q, bit 8 (R31). -/
def State.q (s : State) : Bool := s.sr.getLsbD 8

/-- SR.M, bit 9 (R31). -/
def State.m (s : State) : Bool := s.sr.getLsbD 9

/-- SR.CS, bit 13 (R33). -/
def State.cs (s : State) : Bool := s.sr.getLsbD 13

/-- SR.BO, bit 14 (R34). -/
def State.bo (s : State) : Bool := s.sr.getLsbD 14

/-- SR.IMASK, bits 7 to 4 (R32). -/
def State.imask (s : State) : BitVec 4 := s.sr.extractLsb' 4 4

/-- Writes T alone. -/
def State.setT (s : State) (b : Bool) : State := { s with sr := withBit s.sr 0 b }

/-- Writes Q alone. -/
def State.setQ (s : State) (b : Bool) : State := { s with sr := withBit s.sr 8 b }

/-- Writes M alone. -/
def State.setM (s : State) (b : Bool) : State := { s with sr := withBit s.sr 9 b }

/-- Writes CS alone. -/
def State.setCs (s : State) (b : Bool) : State := { s with sr := withBit s.sr 13 b }

/-- Writes BO alone. -/
def State.setBo (s : State) (b : Bool) : State := { s with sr := withBit s.sr 14 b }

/-- Writes IMASK alone. -/
def State.setImask (s : State) (l : BitVec 4) : State :=
  { s with sr := (s.sr &&& ~~~(0xF0#32)) ||| (l.setWidth 32 <<< 4) }

/-- Writes the whole of SR through its mask (R28). -/
def State.setSr (s : State) (v : Word) : State := { s with sr := v &&& srMask }

/-! ### Carry, borrow and overflow (spec/41_arithmetic.md) -/

/-- The carry out of `a + b + c` (R303). -/
def carryOut (a b : Word) (c : Bool) : Bool := decide (2 ^ 32 ≤ a.toNat + b.toNat + c.toNat)

/-- The borrow out of `a - b - c` (R339, R341). -/
def borrowOut (a b : Word) (c : Bool) : Bool := decide (a.toNat < b.toNat + c.toNat)

/-- Whether the signed sum leaves the range of a longword (R304). -/
def addOverflows (a b : Word) : Bool := decide ((a + b).toInt ≠ a.toInt + b.toInt)

/-- Whether the signed difference leaves the range of a longword (R342). -/
def subOverflows (a b : Word) : Bool := decide ((a - b).toInt ≠ a.toInt - b.toInt)

/-- Whether any of the four bytes of two longwords are equal, byte by byte at the same place (R313). -/
def anyByteEqual (a b : Word) : Bool :=
  a.extractLsb' 0 8 == b.extractLsb' 0 8 || a.extractLsb' 8 8 == b.extractLsb' 8 8 ||
    a.extractLsb' 16 8 == b.extractLsb' 16 8 || a.extractLsb' 24 8 == b.extractLsb' 24 8

end Sys2Proof.Machine
end

