-- ==== Sys2Proof/Machine/Memory.lean ====
section
/-!
DEFINITION. Reading and writing one byte of memory, keeping the canonical form of `Memory.wf`, and the byte order of wider
accesses (R82), decided here once.
-/

namespace Sys2Proof.Machine

open Sys2Proof

/-- The byte at an address: the listed one, or what an unlisted address reads as (log 3). -/
def Memory.read : Memory → Nat → Byte
  | [], _ => Memory.unlisted
  | (k, v) :: rest, a => if k = a then v else Memory.read rest a

/-- Stores a byte, in the canonical form: storing what an unlisted address reads as removes the entry. -/
def Memory.write : Memory → Nat → Byte → Memory
  | [], a, v => if v = Memory.unlisted then [] else [(a, v)]
  | (k, w) :: rest, a, v =>
    if a < k then
      if v = Memory.unlisted then (k, w) :: rest else (a, v) :: (k, w) :: rest
    else if a = k then
      if v = Memory.unlisted then rest else (a, v) :: rest
    else (k, w) :: Memory.write rest a v

/-- Byte `i` of a longword in memory order, byte 0 at the lowest address and most significant (R82). -/
def byteOf (v : Word) (i : Nat) : Byte := v.extractLsb' (8 * (3 - i)) 8

/-- The high byte of a word operand, at the lower address (R82). -/
def highByte (v : Half) : Byte := v.extractLsb' 8 8

/-- The low byte of a word operand, at the higher address (R82). -/
def lowByte (v : Half) : Byte := v.extractLsb' 0 8

/-- The high longword of a quad, at the lower address (R82). -/
def highWord (v : Quad) : Word := v.extractLsb' 32 32

/-- The low longword of a quad, at the higher address (R82). -/
def lowWord (v : Quad) : Word := v.extractLsb' 0 32

end Sys2Proof.Machine
end

