-- ==== Sys2Proof/Machine/Ops.lean ====
section
/-!
DEFINITION. The operations every meaning is built from: registers, open values, data accesses with their alignment check
(R84), what a faulting access does (R725), the stack, exception entry (R716, R727) and the completion of an instruction
in or out of a delay slot (R421, R750).
-/

namespace Sys2Proof.Machine

open Sys2Proof

/-- What one instruction or one step answers. -/
abbrev Res := Host.Outcome State Fault Refusal

/-! ### Registers -/

/-- Reads a general register (R20). -/
def State.reg (s : State) (n : GReg) : Word := s.regs[n.toNat]'n.isLt

/-- Writes a general register (R20). -/
def State.setReg (s : State) (n : GReg) (v : Word) : State := { s with regs := s.regs.set n.toNat v n.isLt }

/-- Reads a single-precision register (R40). -/
def State.freg (s : State) (n : FReg) : Word := s.fregs[n.toNat]'n.isLt

/-- Writes a single-precision register (R40). -/
def State.setFreg (s : State) (n : FReg) (v : Word) : State := { s with fregs := s.fregs.set n.toNat v n.isLt }

/-- The register that holds the high half of a pair; the field's low bit is ignored (R40, D16). -/
def pairHigh (n : DReg) : FReg := n &&& 0xE

/-- The register that holds the low half of a pair (R40, D16). -/
def pairLow (n : DReg) : FReg := n ||| 0x1

/-- Reads a double-precision register or pair, the even register in bits 63 to 32 (R40). -/
def State.dreg (s : State) (n : DReg) : Quad := s.freg (pairHigh n) ++ s.freg (pairLow n)

/-- Writes a double-precision register or pair (R40). -/
def State.setDreg (s : State) (n : DReg) (v : Quad) : State :=
  (s.setFreg (pairHigh n) (highWord v)).setFreg (pairLow n) (lowWord v)

/-- FPSCR.PR (R43). -/
def State.fpPr (s : State) : Bool := s.fpscr.getLsbD 19

/-- FPSCR.SZ (R43). -/
def State.fpSz (s : State) : Bool := s.fpscr.getLsbD 20

/-- Writes the whole of FPSCR through its mask (R45, log 18). -/
def State.setFpscr (s : State) (v : Word) : State := { s with fpscr := v &&& s.cfg.fpscrMask }

/-- The mode the decoder reads (R41, R129). -/
def State.fpMode (s : State) : FpMode := ⟨s.fpPr, s.fpSz⟩

/-! ### Open values (log 7) -/

/-- The next open value. -/
def State.open32 (s : State) : Word := Config.freeWord s.freeCount

/-- The next open 64-bit value. -/
def State.open64 (s : State) : Quad := Config.freeWord s.freeCount ++ Config.freeWord (s.freeCount + 1)

/-- The state after `k` open values have been drawn. -/
def State.drawn (s : State) (k : Nat) : State := { s with freeCount := s.freeCount + k }

/-! ### The byte at an address

IBCR and IBNR lie in the address space at addresses the product gives (R48, R49, log 15); every other byte is memory. -/

/-- A byte of a memory-mapped bank register. -/
inductive BankByte where
  | ibcrHigh
  | ibcrLow
  | ibnrHigh
  | ibnrLow
deriving DecidableEq, Repr

/-- Which bank register's byte stands at an address, if any (R48, R49). -/
def bankByteAt (cfg : Platform) (a : Word) : Option BankByte :=
  if cfg.ibcrAddr = some a then some .ibcrHigh
  else if cfg.ibcrAddr.map (· + 1) = some a then some .ibcrLow
  else if cfg.ibnrAddr = some a then some .ibnrHigh
  else if cfg.ibnrAddr.map (· + 1) = some a then some .ibnrLow
  else none

/-- Reads one byte of the address space. Reserved bits of the bank registers read 0 (U6); IBNR shows BN mod 16 (R49). -/
def State.peek (s : State) (a : Word) : Byte :=
  match bankByteAt s.cfg a with
  | none => Memory.read s.mem a.toNat
  | some .ibcrHigh => highByte s.ibcr
  | some .ibcrLow => lowByte s.ibcr
  | some .ibnrHigh => s.ibnrBe ++ BitVec.ofBool s.ibnrBove ++ 0#5
  | some .ibnrLow => 0#4 ++ BitVec.ofNat 4 s.bn

/-- Writes one byte of the address space. Reserved bits stay 0 and BN cannot be written (R48, R49, U6). -/
def State.poke (s : State) (a : Word) (v : Byte) : State :=
  match bankByteAt s.cfg a with
  | none => { s with mem := Memory.write s.mem a.toNat v }
  | some .ibcrHigh => { s with ibcr := v ++ lowByte s.ibcr }
  | some .ibcrLow => { s with ibcr := highByte s.ibcr ++ (v &&& 0xFE) }
  | some .ibnrHigh => { s with ibnrBe := v.extractLsb' 6 2, ibnrBove := v.getLsbD 5 }
  | some .ibnrLow => s

/-! ### Wider accesses, big-endian (R82) -/

/-- The word at an address. -/
def State.peek16 (s : State) (a : Word) : Half := s.peek a ++ s.peek (a + 1)

/-- The longword at an address. -/
def State.peek32 (s : State) (a : Word) : Word := s.peek a ++ s.peek (a + 1) ++ s.peek (a + 2) ++ s.peek (a + 3)

/-- The quad at an address: two longwords, the lower address first. -/
def State.peek64 (s : State) (a : Word) : Quad := s.peek32 a ++ s.peek32 (a + 4)

/-- Writes a word. -/
def State.poke16 (s : State) (a : Word) (v : Half) : State := (s.poke a (highByte v)).poke (a + 1) (lowByte v)

/-- Writes a longword. -/
def State.poke32 (s : State) (a : Word) (v : Word) : State :=
  (((s.poke a (byteOf v 0)).poke (a + 1) (byteOf v 1)).poke (a + 2) (byteOf v 2)).poke (a + 3) (byteOf v 3)

/-- Writes a quad. -/
def State.poke64 (s : State) (a : Word) (v : Quad) : State := (s.poke32 a (highWord v)).poke32 (a + 4) (lowWord v)

/-! ### Data accesses with their check (R84, R85, R87) -/

/-- Whether a data access of `size` bytes is allowed: on its boundary and not in a forbidden range (R84, R86). -/
def State.canAccess (s : State) (size : Nat) (a : Word) : Bool :=
  a.toNat % size == 0 && !(s.cfg.dataForbidden.any (·.holds a))

/-- Records a CPU address error; it is accepted when the instruction ends (R725, R750). -/
def State.addressError (s : State) : State := { s with held := true }

/-- `MemRead(a, 1)`; none is the CPU address error (R84). -/
def State.read8 (s : State) (a : Word) : Option Byte := if s.canAccess 1 a then some (s.peek a) else none

/-- `MemRead(a, 2)` (R84). -/
def State.read16 (s : State) (a : Word) : Option Half := if s.canAccess 2 a then some (s.peek16 a) else none

/-- `MemRead(a, 4)` (R84). -/
def State.read32 (s : State) (a : Word) : Option Word := if s.canAccess 4 a then some (s.peek32 a) else none

/-- `MemRead(a, 8)` (R84, R87). -/
def State.read64 (s : State) (a : Word) : Option Quad := if s.canAccess 8 a then some (s.peek64 a) else none

/-- `MemWrite(a, 1, v)`; a faulting store changes no memory (R84, R725). -/
def State.store8 (s : State) (a : Word) (v : Byte) : State := if s.canAccess 1 a then s.poke a v else s.addressError

/-- `MemWrite(a, 2, v)` (R84, R725). -/
def State.store16 (s : State) (a : Word) (v : Half) : State := if s.canAccess 2 a then s.poke16 a v else s.addressError

/-- `MemWrite(a, 4, v)` (R84, R725). -/
def State.store32 (s : State) (a : Word) (v : Word) : State := if s.canAccess 4 a then s.poke32 a v else s.addressError

/-- `MemWrite(a, 8, v)` (R84, R87, R725). -/
def State.store64 (s : State) (a : Word) (v : Quad) : State := if s.canAccess 8 a then s.poke64 a v else s.addressError

/-- What a read delivers to a destination: the datum, or an open value and a recorded address error (R725 point 2). -/
def State.deliver (s : State) : Option Word → Word × State
  | some v => (v, s)
  | none => (s.open32, (s.drawn 1).addressError)

/-- The same for a quad. -/
def State.deliver64 (s : State) : Option Quad → Quad × State
  | some v => (v, s)
  | none => (s.open64, (s.drawn 2).addressError)

/-- Loads a longword for a destination (R725). -/
def State.load32 (s : State) (a : Word) : Word × State := s.deliver (s.read32 a)

/-- Loads a quad for a destination (R725). -/
def State.load64 (s : State) (a : Word) : Quad × State := s.deliver64 (s.read64 a)

/-- Loads a byte, sign-extended (R92). -/
def State.load8s (s : State) (a : Word) : Word × State := s.deliver ((s.read8 a).map (·.signExtend 32))

/-- Loads a word, sign-extended (R92). -/
def State.load16s (s : State) (a : Word) : Word × State := s.deliver ((s.read16 a).map (·.signExtend 32))

/-- Loads a byte, zero-extended (R92). -/
def State.load8u (s : State) (a : Word) : Word × State := s.deliver ((s.read8 a).map (·.setWidth 32))

/-- Loads a word, zero-extended (R92). -/
def State.load16u (s : State) (a : Word) : Word × State := s.deliver ((s.read16 a).map (·.setWidth 32))

/-! ### The stack (R22) -/

/-- R15 as the stack pointer (R22). -/
def State.sp (s : State) : Word := s.reg 15

/-- Pushes a longword: store below R15, then move R15 down (R22, R252). -/
def State.push (s : State) (v : Word) : State :=
  let t := s.store32 (s.sp - 4) v
  t.setReg 15 (s.sp - 4)

/-- Pops a longword: read at R15, then move R15 up (R22, R253). -/
def State.pop (s : State) : Word × State :=
  let r := s.load32 s.sp
  (r.1, r.2.setReg 15 (s.sp + 4))

/-! ### Exceptions (spec/60_exceptions.md) -/

/-- The exceptions other than reset (R700). An interrupt carries its vector number. -/
inductive Exc where
  | generalIllegal
  | ramError
  | slotIllegal
  | cpuAddressError
  | dmacAddressError
  | fpu
  | bankOverflow
  | bankUnderflow
  | divideByZero
  | divideOverflow
  | trap (number : BitVec 8)
  | interrupt (vector : BitVec 9)
deriving DecidableEq, Repr

/-- The vector number of an exception (R711). -/
def Exc.vector : Exc → Word
  | .generalIllegal => 4
  | .ramError => 5
  | .slotIllegal => 6
  | .cpuAddressError => 9
  | .dmacAddressError => 10
  | .fpu => 13
  | .bankOverflow => 15
  | .bankUnderflow => 16
  | .divideByZero => 17
  | .divideOverflow => 18
  | .trap v => v.setWidth 32
  | .interrupt v => v.setWidth 32

/-- Where an entry saves the register bank (R716). -/
inductive BankSave where
  | nowhere
  | toBank
  | toStack
deriving DecidableEq, Repr

/-- What a bank save writes: R0 to R14, GBR, MACH, MACL, PR and the vector table address offset (R51, R55, D6). -/
def State.bankImage (s : State) (vto : Word) : Bank :=
  #v[s.reg 0, s.reg 1, s.reg 2, s.reg 3, s.reg 4, s.reg 5, s.reg 6, s.reg 7, s.reg 8, s.reg 9, s.reg 10, s.reg 11,
    s.reg 12, s.reg 13, s.reg 14, s.gbr, s.mach, s.macl, s.pr, vto]

/-- The longword-aligned address at or below an address. -/
def alignDown (a : Word) : Word := a &&& 0xFFFFFFFC

/-- A stack write of an exception entry that faults: the aligned longwords that overlap its four bytes take open values
(R727, D24). -/
def State.scramble (s : State) (a : Word) : State :=
  let t := (s.poke32 (alignDown a) s.open32).drawn 1
  if alignDown a = a then t else (t.poke32 (alignDown a + 4) t.open32).drawn 1

/-- A push of an exception entry. R15 moves whether or not the access faults (R716, R727). -/
def State.entryPush (s : State) (v : Word) : State :=
  let a := s.sp - 4
  let t := s.setReg 15 a
  if t.canAccess 4 a then t.poke32 a v else (t.scramble a).addressError

/-- The stack save of a bank overflow with the exception disabled: MACL, MACH, GBR, PR, R14 down to R0 (R54). -/
def State.entryPushBank (s : State) : State :=
  ([s.macl, s.mach, s.gbr, s.pr, s.reg 14, s.reg 13, s.reg 12, s.reg 11, s.reg 10, s.reg 9, s.reg 8, s.reg 7, s.reg 6,
    s.reg 5, s.reg 4, s.reg 3, s.reg 2, s.reg 1, s.reg 0]).foldl State.entryPush s

/-- The bank save of an entry: nowhere, into bank BN (R51), or onto the stack with BO set (R54). -/
def State.saveBank (s : State) (vto : Word) : BankSave → State
  | .nowhere => s
  | .toBank => { s with banks := s.banks.set s.bn (s.bankImage vto), bn := s.bn + 1 }
  | .toStack => s.entryPushBank.setBo true

/-- The sequence of R716, once: vector read, SR and the saved pc pushed, bank save, IMASK, and control at the handler. A
faulting access is recorded in `held`; the faulting vector read gives an open handler address (R727). -/
def State.enterOnce (s : State) (e : Exc) (saved : Word) (mask : Option (BitVec 4)) (bank : BankSave) : State :=
  let offset := e.vector <<< 2
  let h := s.load32 (s.vbr + offset)
  let t := ((h.2.entryPush s.sr).entryPush saved).saveBank offset bank
  let t := match mask with
    | some l => t.setImask l
    | none => t
  { t with pc := h.1, slot := .none, power := .run }

/-- Exception entry (R716, R727). An address error of the entry itself is accepted before the handler's first instruction,
and the accesses of that second entry are not accepted again. An address error that was held before stays held, unless
this entry is the one that serves it. -/
def State.enter (s : State) (e : Exc) (saved : Word) (mask : Option (BitVec 4)) (bank : BankSave) : State :=
  let t := { s with held := false }.enterOnce e saved mask bank
  if e = .cpuAddressError then { t with held := false }
  else if t.held then { { t with held := false }.enterOnce .cpuAddressError t.pc none .nowhere with held := false }
  else { t with held := s.held }

/-- Entry with no change of IMASK and no bank save: every exception but interrupts and bank overflow (R718, R719). -/
def State.raise (s : State) (e : Exc) (saved : Word) : State := s.enter e saved none .nowhere

/-! ### The end of an instruction -/

/-- Where control goes after an instruction of `len` bytes that does not transfer it: the branch target in the slot of a
taken branch, otherwise the next instruction (R421, R750). -/
def State.nextPc (s : State) (len : Word) : Word :=
  match s.slot with
  | .taken target => target
  | _ => s.pc + len

/-- Control at an address, no slot pending. -/
def State.goto (s : State) (target : Word) : State := { s with pc := target, slot := .none }

/-- Accepts the address error recorded during the instruction, saved pc where control stands (R725 point 5, R750). -/
def State.acceptHeld (s : State) : State := if s.held then s.raise .cpuAddressError s.pc else s

/-- The end of an instruction of `len` bytes. -/
def State.complete (s : State) (len : Word) : State := (s.goto (s.nextPc len)).acceptHeld

/-- A transfer without a delay slot (R10). -/
def State.jump (s : State) (target : Word) : State := (s.goto target).acceptHeld

/-- A delayed branch: the slot instruction is next, then control goes to `target` (R421). -/
def State.delayTo (s : State) (target : Word) : State := { s with pc := s.pc + 2, slot := .taken target }

/-- A conditional delayed branch that is not taken: the next instruction still stands in a slot (D15). -/
def State.delayNone (s : State) : State := { s with pc := s.pc + 2, slot := .untaken }

/-- The answer of an instruction of `len` bytes that does not transfer control. -/
def State.done (s : State) (len : Word) : Res := .next (s.complete len)

/-- The illegal instruction exception of a code of `len` bytes: general outside a slot with the code's own address, slot
illegal in one with the address control was going to (R731, R732, D15). -/
def State.illegal (s : State) (len : Word) : State :=
  match s.slot with
  | .none => s.raise .generalIllegal s.pc
  | .taken target => s.raise .slotIllegal target
  | .untaken => s.raise .slotIllegal (s.pc + len)

/-- An instruction that may not stand in a slot (R142). -/
def State.outsideSlot (s : State) (len : Word) (r : Res) : Res :=
  if s.slot = .none then r else .next (s.illegal len)

/-- Whether the FPU is there and running (R141). -/
def State.fpuReady (s : State) : Bool := s.cfg.hasFpu && !s.fpuStopped

/-- An FPU instruction or FPU-related CPU instruction: an undefined code without a running FPU (R141, R731). -/
def State.withFpu (s : State) (len : Word) (r : Res) : Res := if s.fpuReady then r else .next (s.illegal len)

/-- A bank instruction: an undefined code on a product without banks (R141). -/
def State.withBanks (s : State) (r : Res) : Res := if s.cfg.hasBanks then r else .next (s.illegal 2)

/-- An FPU form that is illegal in the other precision (R506, D20). -/
def State.withPrecision (s : State) (pr : Bool) (r : Res) : Res := if s.fpPr = pr then r else .next (s.illegal 2)

/-- The FPU exception at the end of its instruction, saved pc where control goes next (R738, R750). -/
def State.fpuTrap (s : State) : Res :=
  let t := s.complete 2
  .next (t.raise .fpu t.pc)

/-- Return from exception: PC then SR from the stack, then the slot instruction with the restored SR (R470, R768). -/
def State.returnFromException (s : State) : State :=
  let p := s.pop
  let q := p.2.pop
  (q.2.setSr q.1).delayTo p.1

end Sys2Proof.Machine
end

