-- ==== Sys2Proof/Machine/Operands.lean ====
section
/-!
DEFINITION. Operand forms: immediates (R135), displacements (R136) and effective addresses (R130), all modulo 2^32 (D1).
-/

namespace Sys2Proof.Machine

open Sys2Proof

/-- A sign-extended immediate: MOV, ADD, CMP/EQ (R135). -/
def immSigned {w : Nat} (i : BitVec w) : Word := i.signExtend 32

/-- A zero-extended immediate: TST, AND, OR, XOR (R135). -/
def immZero {w : Nat} (i : BitVec w) : Word := i.setWidth 32

/-- A zero-extended displacement scaled by `2 ^ k` (R136). -/
def dispScaled {w : Nat} (d : BitVec w) (k : Nat) : Word := d.setWidth 32 <<< k

/-- Register indirect with displacement, `@(disp,Rn)` (R130). -/
def State.eaDisp {w : Nat} (s : State) (n : GReg) (d : BitVec w) (k : Nat) : Word := s.reg n + dispScaled d k

/-- Indexed register indirect, `@(R0,Rn)` (R130). -/
def State.eaIndexed (s : State) (n : GReg) : Word := s.reg n + s.reg 0

/-- GBR indirect with displacement, `@(disp,GBR)` (R130). -/
def State.eaGbr (s : State) (d : BitVec 8) (k : Nat) : Word := s.gbr + dispScaled d k

/-- Indexed GBR indirect, `@(R0,GBR)` (R130). -/
def State.eaGbrIndexed (s : State) : Word := s.gbr + s.reg 0

/-- The value of PC in a PC-relative data operand: two after the target in the slot of a taken branch, four after the
instruction otherwise (R132, R133, D13). -/
def State.pcValue (s : State) : Word :=
  match s.slot with
  | .taken target => target + 2
  | _ => s.pc + 4

/-- PC-relative with displacement, word operand (R132). -/
def State.eaPcWord (s : State) (d : BitVec 8) : Word := s.pcValue + dispScaled d 1

/-- PC-relative with displacement, longword operand and MOVA: PC's low two bits are cleared (R132). -/
def State.eaPcLong (s : State) (d : BitVec 8) : Word := alignDown s.pcValue + dispScaled d 2

/-- The target of a branch with a displacement: sign-extended, doubled, from four after the branch (R134). -/
def State.branchTarget {w : Nat} (s : State) (d : BitVec w) : Word := s.pc + 4 + (d.signExtend 32 <<< 1)

/-- The table entry of `JSR/N @@(disp8,TBR)` (R130). -/
def State.eaTbr (s : State) (d : BitVec 8) : Word := s.tbr + dispScaled d 2

end Sys2Proof.Machine
end

