-- ==== Sys2Proof/Machine/DataTransfer.lean ====
section
/-!
DEFINITION. The data transfer instructions (spec/40_data_transfer.md). None changes T but NOTT; the 32-bit ones are slot
illegal (R200). A faulting access follows R725 (R212).
-/

namespace Sys2Proof.Machine

open Sys2Proof

/-! ### Shared shapes -/

/-- A value into a general register, the end of a data transfer of `len` bytes. -/
def State.putReg (s : State) (len : Word) (n : GReg) (v : Word) : Res := (s.setReg n v).done len

/-- A loaded value into a general register. -/
def loadInto (len : Word) (n : GReg) (r : Word × State) : Res := r.2.putReg len n r.1

/-- A load with post-increment: no increment is visible when the address register is the destination (R131, R216). -/
def loadPostInc (m n : GReg) (size : Word) (r : Word × State) : Res :=
  let t := r.2.setReg n r.1
  (if n = m then t else t.setReg m (t.reg m + size)).done 2

/-- A load with pre-decrement into R0; `s` is the state with the register already decremented (R240). -/
def State.preDec (s : State) (m : GReg) (size : Word) : State := s.setReg m (s.reg m - size)

/-! ### Immediate and PC-relative loads -/

/-- R201. -/
def execMovImm (n : GReg) (i : BitVec 8) (s : State) : Res := s.putReg 2 n (immSigned i)

/-- R202. -/
def execMovWPcRel (n : GReg) (d : BitVec 8) (s : State) : Res := loadInto 2 n (s.load16s (s.eaPcWord d))

/-- R203. -/
def execMovLPcRel (n : GReg) (d : BitVec 8) (s : State) : Res := loadInto 2 n (s.load32 (s.eaPcLong d))

/-! ### Register and simple memory moves -/

/-- R204. -/
def execMovReg (m n : GReg) (s : State) : Res := s.putReg 2 n (s.reg m)

/-- R205. -/
def execMovBStore (m n : GReg) (s : State) : Res := (s.store8 (s.reg n) ((s.reg m).setWidth 8)).done 2

/-- R206. -/
def execMovWStore (m n : GReg) (s : State) : Res := (s.store16 (s.reg n) ((s.reg m).setWidth 16)).done 2

/-- R207. -/
def execMovLStore (m n : GReg) (s : State) : Res := (s.store32 (s.reg n) (s.reg m)).done 2

/-- R208. -/
def execMovBLoad (m n : GReg) (s : State) : Res := loadInto 2 n (s.load8s (s.reg m))

/-- R209. -/
def execMovWLoad (m n : GReg) (s : State) : Res := loadInto 2 n (s.load16s (s.reg m))

/-- R210. -/
def execMovLLoad (m n : GReg) (s : State) : Res := loadInto 2 n (s.load32 (s.reg m))

/-- R213: the value stored is the register's before the decrement. -/
def execMovBStorePreDec (m n : GReg) (s : State) : Res :=
  ((s.store8 (s.reg n - 1) ((s.reg m).setWidth 8)).setReg n (s.reg n - 1)).done 2

/-- R214. -/
def execMovWStorePreDec (m n : GReg) (s : State) : Res :=
  ((s.store16 (s.reg n - 2) ((s.reg m).setWidth 16)).setReg n (s.reg n - 2)).done 2

/-- R215. -/
def execMovLStorePreDec (m n : GReg) (s : State) : Res :=
  ((s.store32 (s.reg n - 4) (s.reg m)).setReg n (s.reg n - 4)).done 2

/-- R216. -/
def execMovBLoadPostInc (m n : GReg) (s : State) : Res := loadPostInc m n 1 (s.load8s (s.reg m))

/-- R217. -/
def execMovWLoadPostInc (m n : GReg) (s : State) : Res := loadPostInc m n 2 (s.load16s (s.reg m))

/-- R218. -/
def execMovLLoadPostInc (m n : GReg) (s : State) : Res := loadPostInc m n 4 (s.load32 (s.reg m))

/-! ### Register indirect with 4-bit displacement -/

/-- R219. -/
def execMovBStoreDisp4 (n : GReg) (d : BitVec 4) (s : State) : Res :=
  (s.store8 (s.eaDisp n d 0) ((s.reg 0).setWidth 8)).done 2

/-- R220. -/
def execMovWStoreDisp4 (n : GReg) (d : BitVec 4) (s : State) : Res :=
  (s.store16 (s.eaDisp n d 1) ((s.reg 0).setWidth 16)).done 2

/-- R221. -/
def execMovLStoreDisp4 (m n : GReg) (d : BitVec 4) (s : State) : Res := (s.store32 (s.eaDisp n d 2) (s.reg m)).done 2

/-- R222. -/
def execMovBLoadDisp4 (m : GReg) (d : BitVec 4) (s : State) : Res := loadInto 2 0 (s.load8s (s.eaDisp m d 0))

/-- R223. -/
def execMovWLoadDisp4 (m : GReg) (d : BitVec 4) (s : State) : Res := loadInto 2 0 (s.load16s (s.eaDisp m d 1))

/-- R224. -/
def execMovLLoadDisp4 (m n : GReg) (d : BitVec 4) (s : State) : Res := loadInto 2 n (s.load32 (s.eaDisp m d 2))

/-! ### Indexed register indirect -/

/-- R225. -/
def execMovBStoreIdx (m n : GReg) (s : State) : Res := (s.store8 (s.eaIndexed n) ((s.reg m).setWidth 8)).done 2

/-- R226. -/
def execMovWStoreIdx (m n : GReg) (s : State) : Res := (s.store16 (s.eaIndexed n) ((s.reg m).setWidth 16)).done 2

/-- R227. -/
def execMovLStoreIdx (m n : GReg) (s : State) : Res := (s.store32 (s.eaIndexed n) (s.reg m)).done 2

/-- R228. -/
def execMovBLoadIdx (m n : GReg) (s : State) : Res := loadInto 2 n (s.load8s (s.eaIndexed m))

/-- R229. -/
def execMovWLoadIdx (m n : GReg) (s : State) : Res := loadInto 2 n (s.load16s (s.eaIndexed m))

/-- R230. -/
def execMovLLoadIdx (m n : GReg) (s : State) : Res := loadInto 2 n (s.load32 (s.eaIndexed m))

/-! ### GBR indirect with displacement -/

/-- R231. -/
def execMovBStoreGbr (d : BitVec 8) (s : State) : Res := (s.store8 (s.eaGbr d 0) ((s.reg 0).setWidth 8)).done 2

/-- R232. -/
def execMovWStoreGbr (d : BitVec 8) (s : State) : Res := (s.store16 (s.eaGbr d 1) ((s.reg 0).setWidth 16)).done 2

/-- R233. -/
def execMovLStoreGbr (d : BitVec 8) (s : State) : Res := (s.store32 (s.eaGbr d 2) (s.reg 0)).done 2

/-- R234. -/
def execMovBLoadGbr (d : BitVec 8) (s : State) : Res := loadInto 2 0 (s.load8s (s.eaGbr d 0))

/-- R235. -/
def execMovWLoadGbr (d : BitVec 8) (s : State) : Res := loadInto 2 0 (s.load16s (s.eaGbr d 1))

/-- R236. -/
def execMovLLoadGbr (d : BitVec 8) (s : State) : Res := loadInto 2 0 (s.load32 (s.eaGbr d 2))

/-! ### Reverse-direction stack moves -/

/-- R237: the store uses the unincremented address and value. -/
def execMovBStorePostInc (n : GReg) (s : State) : Res :=
  ((s.store8 (s.reg n) ((s.reg 0).setWidth 8)).setReg n (s.reg n + 1)).done 2

/-- R238. -/
def execMovWStorePostInc (n : GReg) (s : State) : Res :=
  ((s.store16 (s.reg n) ((s.reg 0).setWidth 16)).setReg n (s.reg n + 2)).done 2

/-- R239. -/
def execMovLStorePostInc (n : GReg) (s : State) : Res :=
  ((s.store32 (s.reg n) (s.reg 0)).setReg n (s.reg n + 4)).done 2

/-- R240: the decrement comes first, and the loaded value overwrites it when m = 0. -/
def execMovBLoadPreDec (m : GReg) (s : State) : Res := loadInto 2 0 ((s.preDec m 1).load8s (s.reg m - 1))

/-- R241. -/
def execMovWLoadPreDec (m : GReg) (s : State) : Res := loadInto 2 0 ((s.preDec m 2).load16s (s.reg m - 2))

/-- R242. -/
def execMovLLoadPreDec (m : GReg) (s : State) : Res := loadInto 2 0 ((s.preDec m 4).load32 (s.reg m - 4))

/-! ### Register indirect with 12-bit displacement (32-bit instructions) -/

/-- R243. -/
def execMovBStoreDisp12 (m n : GReg) (d : BitVec 12) (s : State) : Res :=
  s.outsideSlot 4 ((s.store8 (s.eaDisp n d 0) ((s.reg m).setWidth 8)).done 4)

/-- R244. -/
def execMovWStoreDisp12 (m n : GReg) (d : BitVec 12) (s : State) : Res :=
  s.outsideSlot 4 ((s.store16 (s.eaDisp n d 1) ((s.reg m).setWidth 16)).done 4)

/-- R245. -/
def execMovLStoreDisp12 (m n : GReg) (d : BitVec 12) (s : State) : Res :=
  s.outsideSlot 4 ((s.store32 (s.eaDisp n d 2) (s.reg m)).done 4)

/-- R246. -/
def execMovBLoadDisp12 (m n : GReg) (d : BitVec 12) (s : State) : Res :=
  s.outsideSlot 4 (loadInto 4 n (s.load8s (s.eaDisp m d 0)))

/-- R247. -/
def execMovWLoadDisp12 (m n : GReg) (d : BitVec 12) (s : State) : Res :=
  s.outsideSlot 4 (loadInto 4 n (s.load16s (s.eaDisp m d 1)))

/-- R248. -/
def execMovLLoadDisp12 (m n : GReg) (d : BitVec 12) (s : State) : Res :=
  s.outsideSlot 4 (loadInto 4 n (s.load32 (s.eaDisp m d 2)))

/-- R259. -/
def execMovuBLoadDisp12 (m n : GReg) (d : BitVec 12) (s : State) : Res :=
  s.outsideSlot 4 (loadInto 4 n (s.load8u (s.eaDisp m d 0)))

/-- R260. -/
def execMovuWLoadDisp12 (m n : GReg) (d : BitVec 12) (s : State) : Res :=
  s.outsideSlot 4 (loadInto 4 n (s.load16u (s.eaDisp m d 1)))

/-! ### Address and wide-immediate moves -/

/-- R249. -/
def execMova (d : BitVec 8) (s : State) : Res := s.putReg 2 0 (s.eaPcLong d)

/-- R250. -/
def execMovi20 (n : GReg) (i : BitVec 20) (s : State) : Res := s.outsideSlot 4 (s.putReg 4 n (immSigned i))

/-- R251. -/
def execMovi20s (n : GReg) (i : BitVec 20) (s : State) : Res := s.outsideSlot 4 (s.putReg 4 n (immSigned i <<< 8))

/-! ### Multiple-register moves -/

/-- Register `k` of a register list; 15 stands for PR (R252). -/
def State.listReg (s : State) (k : Nat) : Word := if k = 15 then s.pr else s.reg (BitVec.ofNat 4 k)

/-- Writes register `k` of a register list; 15 stands for PR (R253). -/
def State.setListReg (s : State) (k : Nat) (v : Word) : State :=
  if k = 15 then { s with pr := v } else s.setReg (BitVec.ofNat 4 k) v

/-- Pushes the registers of a list, first to last (R252, R254). -/
def State.pushList (s : State) (ks : List Nat) : State := ks.foldl (fun t k => t.push (t.listReg k)) s

/-- Pops the registers of a list, first to last (R253, R255). -/
def State.popList (s : State) (ks : List Nat) : State :=
  ks.foldl (fun t k =>
    let r := t.load32 t.sp
    (r.2.setListReg k r.1).setReg 15 (t.sp + 4)) s

/-- R252: R[m] down to R0, with PR for register 15. -/
def execMovmlPush (m : GReg) (s : State) : Res := (s.pushList (List.range (m.toNat + 1)).reverse).done 2

/-- R253: R0 up to R[n], with PR for register 15. -/
def execMovmlPop (n : GReg) (s : State) : Res := (s.popList (List.range (n.toNat + 1))).done 2

/-- R254: PR, then R14 down to R[m]. -/
def execMovmuPush (m : GReg) (s : State) : Res :=
  (s.pushList (List.range' m.toNat (16 - m.toNat)).reverse).done 2

/-- R255: R[n] up to R14, then PR. -/
def execMovmuPop (n : GReg) (s : State) : Res := (s.popList (List.range' n.toNat (16 - n.toNat))).done 2

/-! ### T-bit moves and miscellany -/

/-- R257. -/
def execMovrt (n : GReg) (s : State) : Res := s.putReg 2 n (bitWord (!s.t))

/-- R258. -/
def execMovt (n : GReg) (s : State) : Res := s.putReg 2 n (bitWord s.t)

/-- R261. -/
def execNott (s : State) : Res := (s.setT (!s.t)).done 2

/-- R262: no architectural effect and no address error, whatever the register holds. -/
def execPref (_n : GReg) (s : State) : Res := s.done 2

/-- R263. -/
def execSwapB (m n : GReg) (s : State) : Res :=
  let v := s.reg m
  s.putReg 2 n (v.extractLsb' 16 16 ++ v.extractLsb' 0 8 ++ v.extractLsb' 8 8)

/-- R264. -/
def execSwapW (m n : GReg) (s : State) : Res :=
  let v := s.reg m
  s.putReg 2 n (v.extractLsb' 0 16 ++ v.extractLsb' 16 16)

/-- R265. -/
def execXtrct (m n : GReg) (s : State) : Res :=
  s.putReg 2 n ((s.reg m).extractLsb' 0 16 ++ (s.reg n).extractLsb' 16 16)

end Sys2Proof.Machine
end

