-- ==== Sys2Proof/Machine/Arithmetic.lean ====
section
/-!
DEFINITION. The integer arithmetic instructions (spec/41_arithmetic.md). None writes memory; MAC.L and MAC.W read it.
-/

namespace Sys2Proof.Machine

open Sys2Proof

/-! ### Add, subtract, negate -/

/-- R301. -/
def execAdd (m n : GReg) (s : State) : Res := s.putReg 2 n (s.reg n + s.reg m)

/-- R302. -/
def execAddImm (n : GReg) (i : BitVec 8) (s : State) : Res := s.putReg 2 n (s.reg n + immSigned i)

/-- R303. -/
def execAddc (m n : GReg) (s : State) : Res :=
  (s.setT (carryOut (s.reg n) (s.reg m) s.t)).putReg 2 n (s.reg n + s.reg m + bitWord s.t)

/-- R304. -/
def execAddv (m n : GReg) (s : State) : Res :=
  (s.setT (addOverflows (s.reg n) (s.reg m))).putReg 2 n (s.reg n + s.reg m)

/-- R338. -/
def execNeg (m n : GReg) (s : State) : Res := s.putReg 2 n (0 - s.reg m)

/-- R339. -/
def execNegc (m n : GReg) (s : State) : Res :=
  (s.setT (borrowOut 0 (s.reg m) s.t)).putReg 2 n (0 - s.reg m - bitWord s.t)

/-- R340. -/
def execSub (m n : GReg) (s : State) : Res := s.putReg 2 n (s.reg n - s.reg m)

/-- R341. -/
def execSubc (m n : GReg) (s : State) : Res :=
  (s.setT (borrowOut (s.reg n) (s.reg m) s.t)).putReg 2 n (s.reg n - s.reg m - bitWord s.t)

/-- R342. -/
def execSubv (m n : GReg) (s : State) : Res :=
  (s.setT (subOverflows (s.reg n) (s.reg m))).putReg 2 n (s.reg n - s.reg m)

/-! ### Compare -/

/-- R305. -/
def execCmpEqImm (i : BitVec 8) (s : State) : Res := (s.setT (s.reg 0 == immSigned i)).done 2

/-- R306. -/
def execCmpEq (m n : GReg) (s : State) : Res := (s.setT (s.reg n == s.reg m)).done 2

/-- R307. -/
def execCmpHs (m n : GReg) (s : State) : Res := (s.setT ((s.reg m).ule (s.reg n))).done 2

/-- R308. -/
def execCmpGe (m n : GReg) (s : State) : Res := (s.setT ((s.reg m).sle (s.reg n))).done 2

/-- R309. -/
def execCmpHi (m n : GReg) (s : State) : Res := (s.setT ((s.reg m).ult (s.reg n))).done 2

/-- R310. -/
def execCmpGt (m n : GReg) (s : State) : Res := (s.setT ((s.reg m).slt (s.reg n))).done 2

/-- R311. -/
def execCmpPl (n : GReg) (s : State) : Res := (s.setT ((0 : Word).slt (s.reg n))).done 2

/-- R312. -/
def execCmpPz (n : GReg) (s : State) : Res := (s.setT ((0 : Word).sle (s.reg n))).done 2

/-- R313. -/
def execCmpStr (m n : GReg) (s : State) : Res := (s.setT (anyByteEqual (s.reg n) (s.reg m))).done 2

/-- R327: T tests the new value. -/
def execDt (n : GReg) (s : State) : Res := (s.setT (s.reg n - 1 == 0)).putReg 2 n (s.reg n - 1)

/-! ### Saturation -/

/-- Clips a register to signed bounds; CS is set when it saturates and otherwise kept (R314). -/
def State.clipSigned (s : State) (n : GReg) (low high : Word) : State :=
  if high.slt (s.reg n) then (s.setReg n high).setCs true
  else if (s.reg n).slt low then (s.setReg n low).setCs true
  else s

/-- Clips a register to an unsigned bound (R316). -/
def State.clipUnsigned (s : State) (n : GReg) (high : Word) : State :=
  if high.ult (s.reg n) then (s.setReg n high).setCs true else s

/-- R314. -/
def execClipsB (n : GReg) (s : State) : Res := (s.clipSigned n 0xFFFFFF80 0x0000007F).done 2

/-- R315. -/
def execClipsW (n : GReg) (s : State) : Res := (s.clipSigned n 0xFFFF8000 0x00007FFF).done 2

/-- R316. -/
def execClipuB (n : GReg) (s : State) : Res := (s.clipUnsigned n 0x000000FF).done 2

/-- R317. -/
def execClipuW (n : GReg) (s : State) : Res := (s.clipUnsigned n 0x0000FFFF).done 2

/-! ### Sign and zero extension -/

/-- R328. -/
def execExtsB (m n : GReg) (s : State) : Res := s.putReg 2 n (((s.reg m).setWidth 8).signExtend 32)

/-- R329. -/
def execExtsW (m n : GReg) (s : State) : Res := s.putReg 2 n (((s.reg m).setWidth 16).signExtend 32)

/-- R332. -/
def execExtuB (m n : GReg) (s : State) : Res := s.putReg 2 n (((s.reg m).setWidth 8).setWidth 32)

/-- R333. -/
def execExtuW (m n : GReg) (s : State) : Res := s.putReg 2 n (((s.reg m).setWidth 16).setWidth 32)

/-! ### Step division -/

/-- R318. -/
def execDiv0s (m n : GReg) (s : State) : Res :=
  let q := (s.reg n).msb
  let mm := (s.reg m).msb
  (((s.setQ q).setM mm).setT (mm ^^ q)).done 2

/-- R319. -/
def execDiv0u (s : State) : Res := (((s.setQ false).setM false).setT false).done 2

/-- R320. The divisor is read after the dividend has been shifted, so with m = n the shifted value is the divisor. -/
def execDiv1 (m n : GReg) (s : State) : Res :=
  let q := (s.reg n).msb
  let a := (s.reg n <<< 1) ||| bitWord s.t
  let t := s.setReg n a
  let b := t.reg m
  let subtract := s.q == s.m
  let r := if subtract then a - b else a + b
  let c := if subtract then a.ult r else r.ult a
  let q' := (q ^^ s.m) ^^ c
  (((t.setReg n r).setQ q').setT (q' == s.m)).done 2

/-! ### Whole division -/

/-- R322: slot illegal in a slot; division by zero is tested before overflow; Rn is unchanged on an exception (D19). -/
def execDivs (n : GReg) (s : State) : Res :=
  s.outsideSlot 2 (
    if s.reg 0 = 0 then .next (s.raise .divideByZero s.pc)
    else if s.reg n = 0x80000000 ∧ s.reg 0 = 0xFFFFFFFF then .next (s.raise .divideOverflow s.pc)
    else s.putReg 2 n (BitVec.ofInt 32 ((s.reg n).toInt.tdiv (s.reg 0).toInt)))

/-- R323. -/
def execDivu (n : GReg) (s : State) : Res :=
  s.outsideSlot 2 (
    if s.reg 0 = 0 then .next (s.raise .divideByZero s.pc)
    else s.putReg 2 n (BitVec.ofNat 32 ((s.reg n).toNat / (s.reg 0).toNat)))

/-! ### Multiply -/

/-- Writes a 64-bit product to MACH and MACL (R325). -/
def State.setMac (s : State) (v : Quad) : State := { s with mach := highWord v, macl := lowWord v }

/-- MACH and MACL as one 64-bit accumulator (R38). -/
def State.mac (s : State) : Quad := s.mach ++ s.macl

/-- R325. -/
def execDmulsL (m n : GReg) (s : State) : Res :=
  (s.setMac (BitVec.ofInt 64 ((s.reg n).toInt * (s.reg m).toInt))).done 2

/-- R326. -/
def execDmuluL (m n : GReg) (s : State) : Res :=
  (s.setMac (BitVec.ofNat 64 ((s.reg n).toNat * (s.reg m).toNat))).done 2

/-- R334: MACH unchanged. -/
def execMulL (m n : GReg) (s : State) : Res := State.done { s with macl := s.reg n * s.reg m } 2

/-- R335: MACH and MACL unchanged. -/
def execMulr (n : GReg) (s : State) : Res := s.putReg 2 n (s.reg 0 * s.reg n)

/-- R336: MACH unchanged. -/
def execMulsW (m n : GReg) (s : State) : Res :=
  State.done { s with
    macl := BitVec.ofInt 32 (((s.reg n).setWidth 16).toInt * ((s.reg m).setWidth 16).toInt) } 2

/-- R337: MACH unchanged. -/
def execMuluW (m n : GReg) (s : State) : Res :=
  State.done { s with
    macl := BitVec.ofNat 32 (((s.reg n).setWidth 16).toNat * ((s.reg m).setWidth 16).toNat) } 2

/-! ### Multiply and accumulate -/

/-- An integer limited to the signed range of `w` bits. -/
def clampSigned (w : Nat) (x : Int) : Int :=
  if 2 ^ (w - 1) ≤ x then 2 ^ (w - 1) - 1 else if x < -(2 ^ (w - 1)) then -(2 ^ (w - 1)) else x

/-- The accumulator after MAC.L: 64-bit wrap-around, or with S set the low 48 bits accumulated, saturated and
sign-extended (R330, D18). -/
def macLResult (saturate : Bool) (acc : Quad) (a b : Word) : Quad :=
  if saturate then BitVec.ofInt 64 (clampSigned 48 ((acc.setWidth 48).toInt + a.toInt * b.toInt))
  else acc + BitVec.ofInt 64 (a.toInt * b.toInt)

/-- MACH:MACL after MAC.W: 64-bit wrap-around, or with S set MACL alone saturated, MACH set to 1 on overflow (R331). -/
def macWResult (saturate : Bool) (acc : Quad) (a b : Half) : Quad :=
  let p := a.toInt * b.toInt
  if saturate then
    let sum := (lowWord acc).toInt + p
    let low := BitVec.ofInt 32 (clampSigned 32 sum)
    if clampSigned 32 sum = sum then highWord acc ++ low else 0x00000001#32 ++ low
  else acc + BitVec.ofInt 64 p

/-- The address registers of a multiply-accumulate after its two reads, the Rn operand first; with m = n the second read
is one operand further (R330). -/
def State.macAdvance (s : State) (m n : GReg) (size : Word) : State :=
  let t := s.setReg n (s.reg n + size)
  t.setReg m (t.reg m + size)

/-- The address of the Rm operand, read after Rn has moved (R330). -/
def State.macAddr (s : State) (m n : GReg) (size : Word) : Word := (s.setReg n (s.reg n + size)).reg m

/-- R330, R343. -/
def execMacL (m n : GReg) (s : State) : Res :=
  let t := s.macAdvance m n 4
  match s.read32 (s.reg n), s.read32 (s.macAddr m n 4) with
  | some a, some b => (t.setMac (macLResult s.sBit s.mac a b)).done 2
  | _, _ => t.addressError.done 2

/-- R331, R343. -/
def execMacW (m n : GReg) (s : State) : Res :=
  let t := s.macAdvance m n 2
  match s.read16 (s.reg n), s.read16 (s.macAddr m n 2) with
  | some a, some b => (t.setMac (macWResult s.sBit s.mac a b)).done 2
  | _, _ => t.addressError.done 2

end Sys2Proof.Machine
end

