-- ==== Sys2Proof/Machine/Logic.lean ====
section
/-!
DEFINITION. The logic instructions (spec/42_logic.md). Immediates are zero-extended (R360).
-/

namespace Sys2Proof.Machine

open Sys2Proof

/-! ### Read-modify-write of a byte -/

/-- Reads a byte, and writes back what `f` makes of it at the same address; when the read faults neither half happens
(R93, R361, R377). -/
def State.modifyByte (s : State) (a : Word) (f : Byte → Byte) : State :=
  match s.read8 a with
  | some v => s.store8 a (f v)
  | none => s.addressError

/-- Reads a byte and sets T from it; when the read faults T is unchanged (R373, R377). -/
def State.testByte (s : State) (a : Word) (f : Byte → Bool) : State :=
  match s.read8 a with
  | some v => s.setT (f v)
  | none => s.addressError

/-! ### AND, NOT, OR -/

/-- R362. -/
def execAndReg (m n : GReg) (s : State) : Res := s.putReg 2 n (s.reg n &&& s.reg m)

/-- R363. -/
def execAndImm (i : BitVec 8) (s : State) : Res := s.putReg 2 0 (s.reg 0 &&& immZero i)

/-- R364. -/
def execAndBGbr (i : BitVec 8) (s : State) : Res := (s.modifyByte s.eaGbrIndexed (· &&& i)).done 2

/-- R365. -/
def execNotReg (m n : GReg) (s : State) : Res := s.putReg 2 n (~~~ s.reg m)

/-- R366. -/
def execOrReg (m n : GReg) (s : State) : Res := s.putReg 2 n (s.reg n ||| s.reg m)

/-- R367. -/
def execOrImm (i : BitVec 8) (s : State) : Res := s.putReg 2 0 (s.reg 0 ||| immZero i)

/-- R368. -/
def execOrBGbr (i : BitVec 8) (s : State) : Res := (s.modifyByte s.eaGbrIndexed (· ||| i)).done 2

/-! ### TAS, TST -/

/-- R370: one indivisible step, so the bus lock needs no state. -/
def execTasB (n : GReg) (s : State) : Res :=
  let a := s.reg n
  match s.read8 a with
  | some v => ((s.setT (v == 0)).store8 a (v ||| 0x80)).done 2
  | none => s.addressError.done 2

/-- R371. -/
def execTstReg (m n : GReg) (s : State) : Res := (s.setT (s.reg n &&& s.reg m == 0)).done 2

/-- R372. -/
def execTstImm (i : BitVec 8) (s : State) : Res := (s.setT (s.reg 0 &&& immZero i == 0)).done 2

/-- R373. -/
def execTstBGbr (i : BitVec 8) (s : State) : Res := (s.testByte s.eaGbrIndexed (fun v => v &&& i == 0)).done 2

/-! ### XOR -/

/-- R374. -/
def execXorReg (m n : GReg) (s : State) : Res := s.putReg 2 n (s.reg n ^^^ s.reg m)

/-- R375. -/
def execXorImm (i : BitVec 8) (s : State) : Res := s.putReg 2 0 (s.reg 0 ^^^ immZero i)

/-- R376. -/
def execXorBGbr (i : BitVec 8) (s : State) : Res := (s.modifyByte s.eaGbrIndexed (· ^^^ i)).done 2

end Sys2Proof.Machine
end

