-- ==== Sys2Proof/Machine/Shift.lean ====
section
/-!
DEFINITION. The shift instructions (spec/43_shift.md). The one-bit forms write T with the bit shifted out, the others
leave T alone (R390).
-/

namespace Sys2Proof.Machine

open Sys2Proof

/-- A one-bit shift or rotate: the register and T (R390). -/
def State.shiftT (s : State) (n : GReg) (v : Word) (t : Bool) : Res := (s.setT t).putReg 2 n v

/-- R391. -/
def execRotl (n : GReg) (s : State) : Res := s.shiftT n ((s.reg n).rotateLeft 1) (s.reg n).msb

/-- R392. -/
def execRotr (n : GReg) (s : State) : Res := s.shiftT n ((s.reg n).rotateRight 1) ((s.reg n).getLsbD 0)

/-- R393. -/
def execRotcl (n : GReg) (s : State) : Res := s.shiftT n ((s.reg n <<< 1) ||| bitWord s.t) (s.reg n).msb

/-- R394. -/
def execRotcr (n : GReg) (s : State) : Res :=
  s.shiftT n ((s.reg n >>> 1) ||| (bitWord s.t <<< 31)) ((s.reg n).getLsbD 0)

/-- R395. -/
def execShal (n : GReg) (s : State) : Res := s.shiftT n (s.reg n <<< 1) (s.reg n).msb

/-- R396. -/
def execShar (n : GReg) (s : State) : Res := s.shiftT n ((s.reg n).sshiftRight 1) ((s.reg n).getLsbD 0)

/-- R397: the same operation as SHAL under its own code. -/
def execShll (n : GReg) (s : State) : Res := s.shiftT n (s.reg n <<< 1) (s.reg n).msb

/-- R398. -/
def execShlr (n : GReg) (s : State) : Res := s.shiftT n (s.reg n >>> 1) ((s.reg n).getLsbD 0)

/-- R399. -/
def execShll2 (n : GReg) (s : State) : Res := s.putReg 2 n (s.reg n <<< 2)

/-- R400. -/
def execShll8 (n : GReg) (s : State) : Res := s.putReg 2 n (s.reg n <<< 8)

/-- R401. -/
def execShll16 (n : GReg) (s : State) : Res := s.putReg 2 n (s.reg n <<< 16)

/-- R402. -/
def execShlr2 (n : GReg) (s : State) : Res := s.putReg 2 n (s.reg n >>> 2)

/-- R403. -/
def execShlr8 (n : GReg) (s : State) : Res := s.putReg 2 n (s.reg n >>> 8)

/-- R404. -/
def execShlr16 (n : GReg) (s : State) : Res := s.putReg 2 n (s.reg n >>> 16)

/-- The amount field of a dynamic shift, bits 4 to 0 of Rm (R405). -/
def shiftCount (c : Word) : Nat := (c.setWidth 5).toNat

/-- An arithmetic shift by a signed amount: left 0 to 31, right 1 to 32 (R405). A right shift by 32 leaves the sign in
every bit, which is what `sshiftRight` by 32 gives. -/
def shiftArith (v c : Word) : Word :=
  if c.msb then v.sshiftRight (32 - shiftCount c) else v <<< shiftCount c

/-- A logical shift by a signed amount (R406). A right shift by 32 gives 0. -/
def shiftLogical (v c : Word) : Word :=
  if c.msb then v >>> (32 - shiftCount c) else v <<< shiftCount c

/-- R405. -/
def execShad (m n : GReg) (s : State) : Res := s.putReg 2 n (shiftArith (s.reg n) (s.reg m))

/-- R406. -/
def execShld (m n : GReg) (s : State) : Res := s.putReg 2 n (shiftLogical (s.reg n) (s.reg m))

end Sys2Proof.Machine
end

