-- ==== Sys2Proof/Machine/Branch.lean ====
section
/-!
DEFINITION. The branch instructions (spec/44_branch.md). All are slot illegal in a slot (R420). A delayed branch latches
its target and leaves the slot instruction to the next step (R421, R440, log 10).
-/

namespace Sys2Proof.Machine

open Sys2Proof

/-- A branch: a PC-rewriting instruction of two bytes, illegal in a slot (R142, R420). -/
def State.branch (s : State) (r : Res) : Res := s.outsideSlot 2 r

/-- The state with a return address in PR. -/
def State.link (s : State) (ret : Word) : State := { s with pr := ret }

/-- R425. -/
def execBf (d : BitVec 8) (s : State) : Res :=
  s.branch (if s.t then s.done 2 else .next (s.jump (s.branchTarget d)))

/-- R426, R423: T is sampled by the branch. -/
def execBfS (d : BitVec 8) (s : State) : Res :=
  s.branch (if s.t then .next s.delayNone else .next (s.delayTo (s.branchTarget d)))

/-- R427. -/
def execBt (d : BitVec 8) (s : State) : Res :=
  s.branch (if s.t then .next (s.jump (s.branchTarget d)) else s.done 2)

/-- R428, R423. -/
def execBtS (d : BitVec 8) (s : State) : Res :=
  s.branch (if s.t then .next (s.delayTo (s.branchTarget d)) else .next s.delayNone)

/-- R429. -/
def execBra (d : BitVec 12) (s : State) : Res := s.branch (.next (s.delayTo (s.branchTarget d)))

/-- R430. -/
def execBraf (m : GReg) (s : State) : Res := s.branch (.next (s.delayTo (s.pc + 4 + s.reg m)))

/-- R431. -/
def execJmp (m : GReg) (s : State) : Res := s.branch (.next (s.delayTo (s.reg m)))

/-- R432. -/
def execBsr (d : BitVec 12) (s : State) : Res :=
  s.branch (.next ((s.link (s.pc + 4)).delayTo (s.branchTarget d)))

/-- R433. -/
def execBsrf (m : GReg) (s : State) : Res :=
  s.branch (.next ((s.link (s.pc + 4)).delayTo (s.pc + 4 + s.reg m)))

/-- R434. -/
def execJsr (m : GReg) (s : State) : Res := s.branch (.next ((s.link (s.pc + 4)).delayTo (s.reg m)))

/-- R435. -/
def execRts (s : State) : Res := s.branch (.next (s.delayTo s.pr))

/-- R436: PR is written first; when the table read faults the transfer does not happen. -/
def execJsrNTbr (d : BitVec 8) (s : State) : Res :=
  s.branch (
    let t := s.link (s.pc + 2)
    match s.read32 (s.eaTbr d) with
    | some target => .next (t.jump target)
    | none => t.addressError.done 2)

/-- R437. -/
def execJsrN (m : GReg) (s : State) : Res := s.branch (.next ((s.link (s.pc + 2)).jump (s.reg m)))

/-- R438; slot illegal like every PC-rewriting instruction (D14). -/
def execRtsN (s : State) : Res := s.branch (.next (s.jump s.pr))

/-- R439. -/
def execRtvN (m : GReg) (s : State) : Res := s.branch (.next ((s.setReg 0 (s.reg m)).jump s.pr))

end Sys2Proof.Machine
end

