-- ==== Sys2Proof/Machine/SystemControl.lean ====
section
/-!
DEFINITION. The system control instructions (spec/45_system_control.md). There is no privilege check (R450, R770).
-/

namespace Sys2Proof.Machine

open Sys2Proof

/-! ### Shared shapes -/

/-- The memory form of a load into a control or system register: the register is written by `put`, and the address
register moves on whether or not the read faults (R459, R491). -/
def State.loadControl (s : State) (m : GReg) (put : State → Word → State) : State :=
  let r := s.load32 (s.reg m)
  (put r.2 r.1).setReg m (s.reg m + 4)

/-- The memory form of a store of a control or system register (R477, R491). -/
def State.storeControl (s : State) (n : GReg) (v : Word) : State :=
  (s.store32 (s.reg n - 4) v).setReg n (s.reg n - 4)

/-- Writes GBR. -/
def State.setGbr (s : State) (v : Word) : State := { s with gbr := v }

/-- Writes VBR: all 32 bits, no alignment check (R457). -/
def State.setVbr (s : State) (v : Word) : State := { s with vbr := v }

/-- Writes TBR. -/
def State.setTbr (s : State) (v : Word) : State := { s with tbr := v }

/-- Writes MACH: all 32 bits (R462). -/
def State.setMach (s : State) (v : Word) : State := { s with mach := v }

/-- Writes MACL. -/
def State.setMacl (s : State) (v : Word) : State := { s with macl := v }

/-- Writes PR. -/
def State.setPr (s : State) (v : Word) : State := { s with pr := v }

/-! ### T bit, MAC clear, NOP -/

/-- R451. -/
def execClrt (s : State) : Res := (s.setT false).done 2

/-- R452. -/
def execSett (s : State) : Res := (s.setT true).done 2

/-- R453. -/
def execClrmac (s : State) : Res := (s.setMac 0).done 2

/-- R454. -/
def execNop (s : State) : Res := s.done 2

/-! ### LDC -/

/-- R455. -/
def execLdcSr (m : GReg) (s : State) : Res := (s.setSr (s.reg m)).done 2

/-- R456. -/
def execLdcGbr (m : GReg) (s : State) : Res := (s.setGbr (s.reg m)).done 2

/-- R457. -/
def execLdcVbr (m : GReg) (s : State) : Res := (s.setVbr (s.reg m)).done 2

/-- R458. -/
def execLdcTbr (m : GReg) (s : State) : Res := (s.setTbr (s.reg m)).done 2

/-- R459. -/
def execLdcLSr (m : GReg) (s : State) : Res := (s.loadControl m State.setSr).done 2

/-- R460. -/
def execLdcLGbr (m : GReg) (s : State) : Res := (s.loadControl m State.setGbr).done 2

/-- R461. -/
def execLdcLVbr (m : GReg) (s : State) : Res := (s.loadControl m State.setVbr).done 2

/-! ### LDS -/

/-- R462. -/
def execLdsMach (m : GReg) (s : State) : Res := (s.setMach (s.reg m)).done 2

/-- R463. -/
def execLdsMacl (m : GReg) (s : State) : Res := (s.setMacl (s.reg m)).done 2

/-- R464. -/
def execLdsPr (m : GReg) (s : State) : Res := (s.setPr (s.reg m)).done 2

/-- R465. -/
def execLdsLMach (m : GReg) (s : State) : Res := (s.loadControl m State.setMach).done 2

/-- R466. -/
def execLdsLMacl (m : GReg) (s : State) : Res := (s.loadControl m State.setMacl).done 2

/-- R467. -/
def execLdsLPr (m : GReg) (s : State) : Res := (s.loadControl m State.setPr).done 2

/-! ### RTE, SLEEP, TRAPA -/

/-- R470: the slot instruction runs with the restored SR. A stack read that faults is accepted after the slot (R491). -/
def execRte (s : State) : Res := s.outsideSlot 2 (.next s.returnFromException)

/-- R471. -/
def execSleep (s : State) : Res := State.done { s with power := .lowPower } 2

/-- R472: any immediate, saved pc the next instruction. -/
def execTrapa (i : BitVec 8) (s : State) : Res := s.outsideSlot 2 (.next (s.raise (.trap i) (s.pc + 2)))

/-! ### STC, STS -/

/-- R473. -/
def execStcSr (n : GReg) (s : State) : Res := s.putReg 2 n s.sr

/-- R474. -/
def execStcGbr (n : GReg) (s : State) : Res := s.putReg 2 n s.gbr

/-- R475. -/
def execStcVbr (n : GReg) (s : State) : Res := s.putReg 2 n s.vbr

/-- R476. -/
def execStcTbr (n : GReg) (s : State) : Res := s.putReg 2 n s.tbr

/-- R477. -/
def execStcLSr (n : GReg) (s : State) : Res := (s.storeControl n s.sr).done 2

/-- R478. -/
def execStcLGbr (n : GReg) (s : State) : Res := (s.storeControl n s.gbr).done 2

/-- R479. -/
def execStcLVbr (n : GReg) (s : State) : Res := (s.storeControl n s.vbr).done 2

/-- R480. -/
def execStsMach (n : GReg) (s : State) : Res := s.putReg 2 n s.mach

/-- R481. -/
def execStsMacl (n : GReg) (s : State) : Res := s.putReg 2 n s.macl

/-- R482. -/
def execStsPr (n : GReg) (s : State) : Res := s.putReg 2 n s.pr

/-- R488. -/
def execStsLMach (n : GReg) (s : State) : Res := (s.storeControl n s.mach).done 2

/-- R489. -/
def execStsLMacl (n : GReg) (s : State) : Res := (s.storeControl n s.macl).done 2

/-- R490. -/
def execStsLPr (n : GReg) (s : State) : Res := (s.storeControl n s.pr).done 2

/-! ### Register banks -/

/-- Copies R0 to R14, GBR, MACH, MACL and PR out of a bank; R15 and VTO are not copied (R485). -/
def State.restoreBank (s : State) (b : Bank) : State :=
  { s with
    regs := #v[b[0], b[1], b[2], b[3], b[4], b[5], b[6], b[7], b[8], b[9], b[10], b[11], b[12], b[13], b[14], s.reg 15]
    gbr := b[15], mach := b[16], macl := b[17], pr := b[18] }

/-- Pops into one register of the stack frame of a bank overflow (R485). -/
def State.popInto (s : State) (put : State → Word → State) : State :=
  let r := s.load32 s.sp
  (put r.2 r.1).setReg 15 (s.sp + 4)

/-- The restore from the stack: R0 to R14, PR, GBR, MACH, MACL (R54, R485). -/
def State.popBank (s : State) : State :=
  let t := s.popList (List.range 15)
  (((t.popInto State.setPr).popInto State.setGbr).popInto State.setMach).popInto State.setMacl

/-- The bank BN names; a BN beyond the store, which no run reaches, reads zeros (R47). -/
def State.bankAt (s : State) (k : Nat) : Bank := s.banks.getD k (Vector.replicate 20 0)

/-- R485: from the bank saved last, or from the stack when BO is set; with nothing saved, the bank underflow exception. -/
def execResbank (s : State) : Res :=
  s.outsideSlot 2 (s.withBanks (
    if s.bo then s.popBank.done 2
    else if s.bn = 0 then .next (s.raise .bankUnderflow s.pc)
    else (State.restoreBank { s with bn := s.bn - 1 } (s.bankAt (s.bn - 1))).done 2))

/-- The bank and entry a bank address names, if it names one (R55, U21). -/
def State.bankEntry? (s : State) (a : Word) : Option (Nat × Fin 20) :=
  let b := (a.extractLsb' 7 9).toNat
  let e := (a.extractLsb' 2 5).toNat
  if a.extractLsb' 16 16 = 0 ∧ a.extractLsb' 0 2 = 0 ∧ b < s.banks.length then
    if h : e < 20 then some (b, ⟨e, h⟩) else none
  else none

/-- R486; an address that names no entry is not guaranteed (U21). -/
def execLdbank (m : GReg) (s : State) : Res :=
  s.withBanks (
    match s.bankEntry? (s.reg m) with
    | some (b, e) => s.putReg 2 0 (s.bankAt b)[e]
    | none => .fault .bankAddressNotGuaranteed)

/-- R487; an address that names no entry is not guaranteed (U21). -/
def execStbank (n : GReg) (s : State) : Res :=
  s.withBanks (
    match s.bankEntry? (s.reg n) with
    | some (b, e) => State.done { s with banks := s.banks.set b ((s.bankAt b).set e (s.reg 0)) } 2
    | none => .fault .bankAddressNotGuaranteed)

end Sys2Proof.Machine
end

