-- ==== Sys2Proof/Machine/BitManipulation.lean ====
section
/-!
DEFINITION. The bit manipulation instructions (spec/48_bit_manipulation.md). The memory forms are 32-bit instructions with
an unscaled displacement, slot illegal in a slot (R600, R601); the register forms touch the low eight bits of Rn (R602).
-/

namespace Sys2Proof.Machine

open Sys2Proof

/-- A byte with bit `i` set to `b`. -/
def withBit8 (v : Byte) (i : BitVec 3) (b : Bool) : Byte :=
  if b then v ||| (1#8 <<< i.toNat) else v &&& ~~~(1#8 <<< i.toNat)

/-- A memory form that only writes T, from the addressed bit and the old T (R601). -/
def State.bitToT (s : State) (n : GReg) (i : BitVec 3) (d : BitVec 12) (f : Bool → Bool → Bool) : Res :=
  s.outsideSlot 4 ((s.testByte (s.eaDisp n d 0) (fun v => f (v.getLsbD i.toNat) s.t)).done 4)

/-- A memory form that writes the addressed bit; the byte is written even when it does not change (R601). -/
def State.bitInMemory (s : State) (n : GReg) (i : BitVec 3) (d : BitVec 12) (b : Bool) : Res :=
  s.outsideSlot 4 ((s.modifyByte (s.eaDisp n d 0) (fun v => withBit8 v i b)).done 4)

/-- A register form that writes the addressed bit (R602). -/
def State.bitInReg (s : State) (n : GReg) (i : BitVec 3) (b : Bool) : Res :=
  s.putReg 2 n (withBit (s.reg n) i.toNat b)

/-- R603. -/
def execBandB (n : GReg) (i : BitVec 3) (d : BitVec 12) (s : State) : Res := s.bitToT n i d (fun b t => b && t)

/-- R604. -/
def execBandnotB (n : GReg) (i : BitVec 3) (d : BitVec 12) (s : State) : Res := s.bitToT n i d (fun b t => !b && t)

/-- R605. -/
def execBorB (n : GReg) (i : BitVec 3) (d : BitVec 12) (s : State) : Res := s.bitToT n i d (fun b t => b || t)

/-- R606. -/
def execBornotB (n : GReg) (i : BitVec 3) (d : BitVec 12) (s : State) : Res := s.bitToT n i d (fun b t => !b || t)

/-- R607. -/
def execBxorB (n : GReg) (i : BitVec 3) (d : BitVec 12) (s : State) : Res := s.bitToT n i d (fun b t => b ^^ t)

/-- R608. -/
def execBldB (n : GReg) (i : BitVec 3) (d : BitVec 12) (s : State) : Res := s.bitToT n i d (fun b _ => b)

/-- R609. -/
def execBldReg (n : GReg) (i : BitVec 3) (s : State) : Res := (s.setT ((s.reg n).getLsbD i.toNat)).done 2

/-- R610. -/
def execBldnotB (n : GReg) (i : BitVec 3) (d : BitVec 12) (s : State) : Res := s.bitToT n i d (fun b _ => !b)

/-- R611. -/
def execBclrB (n : GReg) (i : BitVec 3) (d : BitVec 12) (s : State) : Res := s.bitInMemory n i d false

/-- R612. -/
def execBclrReg (n : GReg) (i : BitVec 3) (s : State) : Res := s.bitInReg n i false

/-- R613. -/
def execBsetB (n : GReg) (i : BitVec 3) (d : BitVec 12) (s : State) : Res := s.bitInMemory n i d true

/-- R614. -/
def execBsetReg (n : GReg) (i : BitVec 3) (s : State) : Res := s.bitInReg n i true

/-- R615. -/
def execBstB (n : GReg) (i : BitVec 3) (d : BitVec 12) (s : State) : Res := s.bitInMemory n i d s.t

/-- R616. -/
def execBstReg (n : GReg) (i : BitVec 3) (s : State) : Res := s.bitInReg n i s.t

end Sys2Proof.Machine
end

