-- ==== Sys2Proof/Machine/Float.lean ====
section
/-!
DEFINITION. The arithmetic of the FPU (spec/46_floating_point.md section 1) on bit patterns held as natural numbers: the
classification of operands (R502), the special results (R504), exact magnitudes and the one rounding of the computed path
(R509, D21). Nothing here touches the machine's state.
-/

namespace Sys2Proof.Machine

open Sys2Proof

/-! ### Formats (R501) -/

/-- A binary format: the widths of its exponent and fraction fields. -/
structure Fmt where
  expBits : Nat
  fracBits : Nat
deriving DecidableEq, Repr

/-- Single precision: 8 exponent bits, 23 fraction bits (R501). -/
def Fmt.single : Fmt := ⟨8, 23⟩

/-- Double precision: 11 exponent bits, 52 fraction bits (R501). -/
def Fmt.double : Fmt := ⟨11, 52⟩

/-- The exponent bias, which is also the exponent of the largest binade (R501). -/
def Fmt.bias (f : Fmt) : Nat := 2 ^ (f.expBits - 1) - 1

/-- The number of significant bits (R509). -/
def Fmt.precision (f : Fmt) : Nat := f.fracBits + 1

/-- The exponent of the smallest normal number, -126 or -1022 (R509). -/
def Fmt.emin (f : Fmt) : Int := 1 - f.bias

/-- The exponent of the largest normal number, 127 or 1023 (R509). -/
def Fmt.emax (f : Fmt) : Int := f.bias

/-- The weight of the sign bit. -/
def Fmt.signWeight (f : Fmt) : Nat := 2 ^ (f.expBits + f.fracBits)

/-! ### Special patterns (R504) -/

/-- The sign part of a pattern. -/
def Fmt.sign (f : Fmt) (neg : Bool) : Nat := if neg then f.signWeight else 0

/-- A zero of a sign (R504). -/
def Fmt.zero (f : Fmt) (neg : Bool) : Nat := f.sign neg

/-- An infinity of a sign (R504). -/
def Fmt.infinity (f : Fmt) (neg : Bool) : Nat := f.sign neg + (2 ^ f.expBits - 1) * 2 ^ f.fracBits

/-- The largest normal number of a sign (R501). -/
def Fmt.maxNorm (f : Fmt) (neg : Bool) : Nat := f.infinity neg - 1

/-- The one NaN result: every fraction bit set but the top one (R504). -/
def Fmt.qnan (f : Fmt) : Nat := f.infinity false + (2 ^ (f.fracBits - 1) - 1)

/-- A pattern with its sign bit inverted. -/
def Fmt.negate (f : Fmt) (x : Nat) : Nat :=
  if x.testBit (f.expBits + f.fracBits) then x - f.signWeight else x + f.signWeight

/-! ### Classification (R502) -/

/-- The class of an operand; a normal number is `(-1)^neg * mant * 2^exp`. -/
inductive FpNum where
  | snan
  | qnan
  | inf (neg : Bool)
  | zero (neg : Bool)
  | denorm (neg : Bool)
  | norm (neg : Bool) (mant : Nat) (exp : Int)
deriving DecidableEq, Repr

/-- The class of a pattern. A NaN whose fraction's top bit is 1 signals, the others are quiet; with DN = 1 a denormalized
number is a zero of its sign (R502). -/
def classify (f : Fmt) (dn : Bool) (x : Nat) : FpNum :=
  let neg := x.testBit (f.expBits + f.fracBits)
  let e := x / 2 ^ f.fracBits % 2 ^ f.expBits
  let frac := x % 2 ^ f.fracBits
  if e = 2 ^ f.expBits - 1 then
    if frac = 0 then .inf neg
    else if frac.testBit (f.fracBits - 1) then .snan else .qnan
  else if e = 0 then
    if frac = 0 ∨ dn then .zero neg else .denorm neg
  else .norm neg (2 ^ f.fracBits + frac) ((e : Int) - f.bias - f.fracBits)

/-- Whether a class is a NaN. -/
def FpNum.isNan : FpNum → Bool
  | .snan | .qnan => true
  | _ => false

/-- Whether a class is an infinity. -/
def FpNum.isInf : FpNum → Bool
  | .inf _ => true
  | _ => false

/-- Whether a class is a zero. -/
def FpNum.isZero : FpNum → Bool
  | .zero _ => true
  | _ => false

/-- Whether a class is DENORM, which only DN = 0 can give (R502). -/
def FpNum.isDenorm : FpNum → Bool
  | .denorm _ => true
  | _ => false

/-- The sign bit of a pattern, `sign_of` (R502). -/
def Fmt.isNeg (f : Fmt) (x : Nat) : Bool := x.testBit (f.expBits + f.fracBits)

/-! ### Exact magnitudes and their rounding (R509) -/

/-- A real number `(mant + δ) * 2^exp` with a sign, where δ is 0, or with `sticky` lies strictly between 0 and 1. -/
structure Exact where
  neg : Bool
  mant : Nat
  exp : Int
  sticky : Bool
deriving DecidableEq, Repr

/-- A rounded magnitude: `mant * 2^exp`, and whether it differs from what was rounded. -/
structure Rounded where
  mant : Nat
  exp : Int
  inexact : Bool
deriving DecidableEq, Repr

/-- R509 step 1: to a multiple of `2^(max(e, emin) - p + 1)` with `e` the exponent of the magnitude, to nearest with ties
to even, or toward zero. -/
def roundExact (f : Fmt) (toZero : Bool) (x : Exact) : Rounded :=
  let e : Int := x.exp + Nat.log2 x.mant
  let q : Int := max e f.emin - f.precision + 1
  if q ≤ x.exp then ⟨x.mant * 2 ^ (x.exp - q).toNat, q, x.sticky⟩
  else
    let unit := 2 ^ (q - x.exp).toNat
    let low := x.mant / unit
    let rem := x.mant % unit
    let up := !toZero && (decide (unit < 2 * rem) || (decide (2 * rem = unit) && (x.sticky || low % 2 == 1)))
    ⟨if up then low + 1 else low, q, decide (rem ≠ 0) || x.sticky⟩

/-- The exponent of a nonzero rounded magnitude. -/
def Rounded.exponent (r : Rounded) : Int := r.exp + Nat.log2 r.mant

/-- The pattern of a normal magnitude with at most `p` significant bits. -/
def encodeNormal (f : Fmt) (neg : Bool) (r : Rounded) : Nat :=
  let l := Nat.log2 r.mant
  let m := if l ≤ f.fracBits then r.mant * 2 ^ (f.fracBits - l) else r.mant / 2 ^ (l - f.fracBits)
  f.sign neg + (r.exponent + f.bias).toNat * 2 ^ f.fracBits + (m - 2 ^ f.fracBits)

/-! ### Exceptions (R505) -/

/-- Cause.V and Flag.V (R505). -/
def raiseV : Word := 0x00010040

/-- Cause.Z and Flag.Z (R505). -/
def raiseZ : Word := 0x00008020

/-- Cause.O and Flag.O (R505). -/
def raiseO : Word := 0x00004010

/-- Cause.U and Flag.U (R505). -/
def raiseU : Word := 0x00002008

/-- Cause.I and Flag.I (R505). -/
def raiseI : Word := 0x00001004

/-- Cause.E, which has no flag (R505). -/
def raiseE : Word := 0x00020000

/-- The FPSCR fields that an arithmetic instruction reads (R532). -/
structure FpEnv where
  /-- FPSCR.DN. -/
  dn : Bool
  /-- RM bit 0: round toward zero (R509, U15). -/
  toZero : Bool
  /-- Enable.V. -/
  enV : Bool
  /-- Enable.Z. -/
  enZ : Bool
  /-- Any of Enable.O, Enable.U, Enable.I. -/
  enOUI : Bool
  /-- Enable.I. -/
  enI : Bool
  /-- QIS with Enable.V: quiet NaNs and infinities are treated as signalling NaNs (R508). -/
  quietSignals : Bool
deriving DecidableEq, Repr

/-- What an operation delivers. -/
inductive FpOut where
  /-- A pattern for the destination. -/
  | write (x : Nat)
  /-- The FPU exception; the destination is unchanged (R507). -/
  | trap
  /-- A value the manual does not state, with FPSCR.DN = 0 (U14, log 16). -/
  | unstated
deriving DecidableEq, Repr

/-- The exceptions an operation raises, as bits of FPSCR, and what it delivers. -/
structure FpResult where
  raised : Word
  out : FpOut
deriving DecidableEq, Repr

/-- A result that raises nothing. -/
def FpResult.exact (x : Nat) : FpResult := ⟨0, .write x⟩

/-- A result the manual does not state (U14). -/
def FpResult.unstated : FpResult := ⟨0, .unstated⟩

/-- `invalid(n)`: V; the NaN result, or the trap (R511). -/
def FpResult.invalid (f : Fmt) (env : FpEnv) : FpResult := ⟨raiseV, if env.enV then .trap else .write f.qnan⟩

/-- `dz(n, sign)`: Z; an infinity, or the trap (R511). -/
def FpResult.divideByZero (f : Fmt) (env : FpEnv) (neg : Bool) : FpResult :=
  ⟨raiseZ, if env.enZ then .trap else .write (f.infinity neg)⟩

/-- `set_E` and the unconditional trap on a denormalized operand with DN = 0 (R505, U14, log 16). -/
def FpResult.fpuError : FpResult := ⟨raiseE, .trap⟩

/-- The class of an operand as an arithmetic instruction sees it, with QIS applied (R508). -/
def operandClass (f : Fmt) (env : FpEnv) (x : Nat) : FpNum :=
  match classify f env.dn x with
  | .qnan => if env.quietSignals then .snan else .qnan
  | .inf neg => if env.quietSignals then .snan else .inf neg
  | c => c

/-- R509 steps 1 to 3: what `finish(x)` raises, and the pattern it gives. -/
def finishValue (f : Fmt) (toZero : Bool) (x : Exact) : Word × Nat :=
  let r := roundExact f toZero x
  let i := if r.inexact then raiseI else 0
  if r.mant = 0 then (if r.inexact then raiseI ||| raiseU else 0, f.zero x.neg)
  else if f.emax < r.exponent then
    (raiseO ||| raiseI, if toZero then f.maxNorm x.neg else f.infinity x.neg)
  else if r.exponent < f.emin then (raiseI ||| raiseU, f.zero x.neg)
  else (i, encodeNormal f x.neg r)

/-- R509 with step 4: `trapAlways` says whether any of the Enable bits that the instruction's rule names is 1. -/
def finish (f : Fmt) (toZero trapAlways : Bool) (x : Exact) : FpResult :=
  let v := finishValue f toZero x
  ⟨v.1, if trapAlways then .trap else .write v.2⟩

/-! ### Exact operations on normal numbers -/

/-- The exact sum; an exact zero is +0 (R509 step 1). -/
def exactAdd (neg1 : Bool) (m1 : Nat) (e1 : Int) (neg2 : Bool) (m2 : Nat) (e2 : Int) : Exact :=
  let e := min e1 e2
  let a : Int := (m1 * 2 ^ (e1 - e).toNat : Nat)
  let b : Int := (m2 * 2 ^ (e2 - e).toNat : Nat)
  let sum := (if neg1 then -a else a) + (if neg2 then -b else b)
  ⟨decide (sum < 0), sum.natAbs, e, false⟩

/-- The exact product. -/
def exactMul (neg1 : Bool) (m1 : Nat) (e1 : Int) (neg2 : Bool) (m2 : Nat) (e2 : Int) : Exact :=
  ⟨neg1 ^^ neg2, m1 * m2, e1 + e2, false⟩

/-- The exact quotient to three bits beyond the precision, with the remainder as the sticky bit. -/
def exactDiv (f : Fmt) (neg1 : Bool) (m1 : Nat) (e1 : Int) (neg2 : Bool) (m2 : Nat) (e2 : Int) : Exact :=
  let k := f.precision + 3
  let a := m1 * 2 ^ k
  ⟨neg1 ^^ neg2, a / m2, e1 - e2 - k, decide (a % m2 ≠ 0)⟩

/-- The integer square root below `2^bits`, one bit at a time from the top. -/
def isqrtLoop (n : Nat) : Nat → Nat → Nat
  | 0, r => r
  | k + 1, r => if (r + 2 ^ k) * (r + 2 ^ k) ≤ n then isqrtLoop n k (r + 2 ^ k) else isqrtLoop n k r

/-- The integer square root of a number below `2^192`. -/
def isqrt (n : Nat) : Nat := isqrtLoop n 96 0

/-- The exact square root of a positive normal number, to two bits beyond the precision, with the remainder as the sticky
bit. -/
def exactSqrt (f : Fmt) (m : Nat) (e : Int) : Exact :=
  let k := f.precision + 2
  let odd := e % 2 = 1
  let a := (if odd then 2 * m else m) * 2 ^ (2 * k)
  let e' := if odd then e - 1 else e
  ⟨false, isqrt a, e' / 2 - k, decide (isqrt a * isqrt a ≠ a)⟩

/-! ### The instructions' tables; `a` is FRn or DRn, `b` FRm or DRm -/

/-- FADD (R514). With FPSCR.DN = 0 the spec gives no place to the trap on a denormalized operand (R505, U14): DESIGN
CHOICE, it stands after line 2, so an infinite other operand does not hinder it (log 16). -/
def fpAdd (f : Fmt) (env : FpEnv) (a b : Nat) : FpResult :=
  match operandClass f env a, operandClass f env b with
  | .snan, _ => .invalid f env
  | _, .snan => .invalid f env
  | .qnan, _ => .exact f.qnan
  | _, .qnan => .exact f.qnan
  | .denorm _, _ => .fpuError
  | _, .denorm _ => .fpuError
  | .norm n1 m1 e1, .norm n2 m2 e2 => finish f env.toZero env.enOUI (exactAdd n1 m1 e1 n2 m2 e2)
  | .zero _, .norm _ _ _ => .exact b
  | .inf _, .norm _ _ _ => .exact a
  | .norm _ _ _, .zero _ => .exact a
  | .inf _, .zero _ => .exact a
  | .zero n1, .zero n2 => .exact (f.zero (n1 && n2))
  | .inf n1, .inf n2 => if n1 = n2 then .exact (f.infinity n2) else .invalid f env
  | .norm _ _ _, .inf n2 => .exact (f.infinity n2)
  | .zero _, .inf n2 => .exact (f.infinity n2)

/-- FSUB (R515): every line of its table is FADD's with the sign of FRm inverted; the sign of a NaN plays no part. -/
def fpSub (f : Fmt) (env : FpEnv) (a b : Nat) : FpResult := fpAdd f env a (f.negate b)

/-- FMUL (R516). With FPSCR.DN = 0 a denormalized operand times a zero or an infinity follows lines 4 and 5, and any other
result is not stated and free: DESIGN CHOICE (log 16). -/
def fpMul (f : Fmt) (env : FpEnv) (a b : Nat) : FpResult :=
  let sg := f.isNeg a ^^ f.isNeg b
  match operandClass f env a, operandClass f env b with
  | .snan, _ => .invalid f env
  | _, .snan => .invalid f env
  | .qnan, _ => .exact f.qnan
  | _, .qnan => .exact f.qnan
  | .zero _, .inf _ => .invalid f env
  | .inf _, .zero _ => .invalid f env
  | .inf _, _ => .exact (f.infinity sg)
  | _, .inf _ => .exact (f.infinity sg)
  | .zero _, _ => .exact (f.zero sg)
  | _, .zero _ => .exact (f.zero sg)
  | .norm n1 m1 e1, .norm n2 m2 e2 => finish f env.toZero env.enOUI (exactMul n1 m1 e1 n2 m2 e2)
  | .denorm _, _ => .unstated
  | _, .denorm _ => .unstated

/-- FDIV (R517): `a` is the dividend. With FPSCR.DN = 0 only a denormalized dividend by a normal divisor traps (R505), and
any other result with a denormalized operand and no NaN is not stated and free: DESIGN CHOICE (log 16). -/
def fpDiv (f : Fmt) (env : FpEnv) (a b : Nat) : FpResult :=
  let sg := f.isNeg a ^^ f.isNeg b
  match operandClass f env a, operandClass f env b with
  | .snan, _ => .invalid f env
  | _, .snan => .invalid f env
  | .qnan, _ => .exact f.qnan
  | _, .qnan => .exact f.qnan
  | .zero _, .zero _ => .invalid f env
  | .inf _, .inf _ => .invalid f env
  | .norm _ _ _, .zero _ => .divideByZero f env sg
  | .inf _, .zero _ => .exact (f.infinity sg)
  | .norm _ _ _, .inf _ => .exact (f.zero sg)
  | .zero _, .inf _ => .exact (f.zero sg)
  | .inf _, .norm _ _ _ => .exact (f.infinity sg)
  | .zero _, .norm _ _ _ => .exact (f.zero sg)
  | .norm n1 m1 e1, .norm n2 m2 e2 => finish f env.toZero env.enOUI (exactDiv f n1 m1 e1 n2 m2 e2)
  | .denorm _, .norm _ _ _ => .fpuError
  | .denorm _, _ => .unstated
  | _, .denorm _ => .unstated

/-- FMAC (R518): `c` is FR0, `b` FRm, `a` FRn; one rounding of the exact product and sum. With FPSCR.DN = 0 the spec gives
no place to the trap on a denormalized FR0 or FRm (R505, U14): DESIGN CHOICE, it stands after line 3 and before line 4, so
it is taken although FRn is a qNaN or the other factor infinite, and a denormalized FRn alone takes no trap (log 16). -/
def fpMac (env : FpEnv) (c b a : Nat) : FpResult :=
  let f := Fmt.single
  let p := f.isNeg c ^^ f.isNeg b
  let x := operandClass f env c
  let y := operandClass f env b
  let z := operandClass f env a
  if x = .snan ∨ y = .snan ∨ z = .snan then .invalid f env
  else if (x.isZero && y.isInf) || (x.isInf && y.isZero) then .invalid f env
  else if x = .qnan ∨ y = .qnan then .exact f.qnan
  else if x.isDenorm || y.isDenorm then .fpuError
  else if x.isInf || y.isInf then
    match z with
    | .qnan => .exact f.qnan
    | .inf sn => if sn = p then .exact (f.infinity p) else .invalid f env
    | _ => .exact (f.infinity p)
  else
    match x, y, z with
    | _, _, .qnan => .exact f.qnan
    | _, _, .inf _ => .exact a
    | .norm n1 m1 e1, .norm n2 m2 e2, .norm n3 m3 e3 =>
      let q := exactMul n1 m1 e1 n2 m2 e2
      finish f env.toZero env.enOUI (exactAdd q.neg q.mant q.exp n3 m3 e3)
    | .norm n1 m1 e1, .norm n2 m2 e2, .zero _ =>
      finish f env.toZero env.enOUI (exactMul n1 m1 e1 n2 m2 e2)
    | _, _, .zero sn => .exact (f.zero (p && sn))
    | _, _, .norm _ _ _ => .exact a
    | _, _, _ => .unstated

/-- FSQRT (R536): only Enable.I traps on the computed path. -/
def fpSqrt (f : Fmt) (env : FpEnv) (a : Nat) : FpResult :=
  match operandClass f env a with
  | .snan => .invalid f env
  | .qnan => .exact f.qnan
  | .inf true => .invalid f env
  | .inf false => .exact a
  | .zero neg => .exact (f.zero neg)
  | .denorm neg => .exact (f.zero neg)
  | .norm true _ _ => .invalid f env
  | .norm false m e => finish f env.toZero env.enI (exactSqrt f m e)

/-! ### Comparison (R520) -/

/-- The relation of `fcmp_chk`. -/
inductive FpRel where
  | invalid
  | unordered
  | eq
  | gt
  | lt
deriving DecidableEq, Repr

/-- The order of two signed dyadic numbers. -/
def compareExact (n1 : Bool) (m1 : Nat) (e1 : Int) (n2 : Bool) (m2 : Nat) (e2 : Int) : FpRel :=
  let d := exactAdd n1 m1 e1 (!n2) m2 e2
  if d.mant = 0 then .eq else if d.neg then .lt else .gt

/-- The dyadic number of a finite class; a denormalized operand reads as zero (R520). -/
def FpNum.finite : FpNum → Bool × Nat × Int
  | .norm n m e => (n, m, e)
  | _ => (false, 0, 0)

/-- The relation of FRn (`a`) to FRm (`b`): the two zeros are equal, infinities compare with everything (R520). -/
def fpCompare (f : Fmt) (env : FpEnv) (a b : Nat) : FpRel :=
  let x := operandClass f env a
  let y := operandClass f env b
  if x = .snan ∨ y = .snan then .invalid
  else if x = .qnan ∨ y = .qnan then .unordered
  else
    match x, y with
    | .inf n1, .inf n2 => if n1 = n2 then .eq else if n1 then .lt else .gt
    | .inf n1, _ => if n1 then .lt else .gt
    | _, .inf n2 => if n2 then .gt else .lt
    | x, y => compareExact x.finite.1 x.finite.2.1 x.finite.2.2 y.finite.1 y.finite.2.1 y.finite.2.2

/-! ### Conversions -/

/-- FCNVDS (R523): a double to a single; even a zero takes the computed path. -/
def fpDoubleToSingle (env : FpEnv) (x : Nat) : FpResult :=
  match operandClass .double env x with
  | .snan => .invalid .single env
  | .qnan => .exact Fmt.single.qnan
  | .inf neg => .exact (Fmt.single.infinity neg)
  | .zero neg => finish .single env.toZero env.enOUI ⟨neg, 0, 0, false⟩
  | .norm neg m e => finish .single env.toZero env.enOUI ⟨neg, m, e, false⟩
  | .denorm _ => .unstated

/-- FCNVSD (R524): a single to a double, exact; a denormalized number gives a zero. -/
def fpSingleToDouble (env : FpEnv) (x : Nat) : FpResult :=
  match operandClass .single env x with
  | .snan => .invalid .double env
  | .qnan => .exact Fmt.double.qnan
  | .inf neg => .exact (Fmt.double.infinity neg)
  | .zero neg => .exact (Fmt.double.zero neg)
  | .denorm neg => .exact (Fmt.double.zero neg)
  | .norm neg m e => .exact (encodeNormal .double neg ⟨m, e, false⟩)

/-- An integer as an exact magnitude. -/
def exactInt (k : Int) : Exact := ⟨decide (k < 0), k.natAbs, 0, false⟩

/-- FLOAT to single (R530, D22): rounded by RM; only Enable.I traps. -/
def fpFloatSingle (env : FpEnv) (k : Int) : FpResult := finish .single env.toZero env.enI (exactInt k)

/-- FLOAT to double: exact, no trap (R530). -/
def fpFloatDouble (env : FpEnv) (k : Int) : FpResult := finish .double env.toZero false (exactInt k)

/-- A finite class truncated toward zero (R531). -/
def FpNum.trunc : FpNum → Int
  | .norm neg m e =>
    let v : Int := if 0 ≤ e then (m * 2 ^ e.toNat : Nat) else (m / 2 ^ (-e).toNat : Nat)
    if neg then -v else v
  | _ => 0

/-- `ftrc_invalid` (R531). -/
def ftrcInvalid (env : FpEnv) (neg : Bool) : FpResult :=
  ⟨raiseV, if env.enV then .trap else .write (if neg then 0x80000000 else 0x7FFFFFFF)⟩

/-- FTRC of a single (R531), by the thresholds of its table. -/
def fpTruncSingle (env : FpEnv) (h : Nat) : FpResult :=
  let a := h % 0x80000000
  if Fmt.single.isNeg h then
    if 0x4F000000 < a then ftrcInvalid env true
    else .exact (BitVec.ofInt 32 (classify .single true h).trunc).toNat
  else
    if 0x7F800000 < a then ftrcInvalid env true
    else if 0x4EFFFFFF < a then ftrcInvalid env false
    else .exact (BitVec.ofInt 32 (classify .single true h).trunc).toNat

/-- FTRC of a double (R531), by the thresholds of its table. -/
def fpTruncDouble (env : FpEnv) (h : Nat) : FpResult :=
  let a := h % 0x8000000000000000
  if Fmt.double.isNeg h then
    if 0x41E0000000200000 ≤ a then ftrcInvalid env true
    else .exact (BitVec.ofInt 32 (classify .double true h).trunc).toNat
  else
    if 0x7FF0000000000000 < a then ftrcInvalid env true
    else if 0x41E0000000000000 ≤ a then ftrcInvalid env false
    else .exact (BitVec.ofInt 32 (classify .double true h).trunc).toNat

end Sys2Proof.Machine
end

