-- ==== Sys2Proof/Machine/FloatArith.lean ====
section
/-!
DEFINITION. The floating-point arithmetic instructions (spec/46_floating_point.md). The decoder has already chosen between
the single and the double form by FPSCR.PR (R129, log 6). All are undefined codes without a running FPU (R141).
-/

namespace Sys2Proof.Machine

open Sys2Proof

/-- What an arithmetic instruction reads from FPSCR (R532). Only bit 0 of RM is examined (U15). -/
def State.fpEnv (s : State) : FpEnv where
  dn := s.fpscr.getLsbD 18
  toZero := s.fpscr.getLsbD 0
  enV := s.fpscr.getLsbD 11
  enZ := s.fpscr.getLsbD 10
  enOUI := s.fpscr.getLsbD 9 || s.fpscr.getLsbD 8 || s.fpscr.getLsbD 7
  enI := s.fpscr.getLsbD 7
  quietSignals := s.fpscr.getLsbD 22 && s.fpscr.getLsbD 11

/-- Clears Cause, then sets the Cause and Flag bits of what was raised; Flag bits are never cleared (R505). -/
def State.fpRaise (s : State) (raised : Word) : State :=
  { s with fpscr := (s.fpscr &&& ~~~0x0003F000) ||| raised }

/-- A single-precision result into its destination, or the trap with the destination unchanged (R507). -/
def State.fpDeliver32 (s : State) (r : FpResult) (put : State → Word → State) : Res :=
  let t := s.fpRaise r.raised
  match r.out with
  | .write x => (put t (BitVec.ofNat 32 x)).done 2
  | .trap => t.fpuTrap
  | .unstated => (put (t.drawn 1) t.open32).done 2

/-- A double-precision result into its destination, or the trap with the destination unchanged (R507). -/
def State.fpDeliver64 (s : State) (r : FpResult) (put : State → Quad → State) : Res :=
  let t := s.fpRaise r.raised
  match r.out with
  | .write x => (put t (BitVec.ofNat 64 x)).done 2
  | .trap => t.fpuTrap
  | .unstated => (put (t.drawn 2) t.open64).done 2

/-- A result into FRn. -/
def State.fpToFr (s : State) (n : FReg) (r : FpResult) : Res :=
  s.withFpu 2 (s.fpDeliver32 r (fun t v => t.setFreg n v))

/-- A result into DRn. -/
def State.fpToDr (s : State) (n : DReg) (r : FpResult) : Res :=
  s.withFpu 2 (s.fpDeliver64 r (fun t v => t.setDreg n v))

/-- Writes FPUL. -/
def State.setFpul (s : State) (v : Word) : State := { s with fpul := v }

/-- A result into FPUL. -/
def State.fpToFpul (s : State) (r : FpResult) : Res := s.withFpu 2 (s.fpDeliver32 r State.setFpul)

/-- The pattern in FRn as a number. -/
def State.fr (s : State) (n : FReg) : Nat := (s.freg n).toNat

/-- The pattern in DRn as a number. -/
def State.dr (s : State) (n : DReg) : Nat := (s.dreg n).toNat

/-! ### Sign manipulation: the named 32-bit register, whatever the precision; FPSCR unchanged (R512, R513) -/

/-- R512, single form. -/
def execFabsFR (n : FReg) (s : State) : Res := s.withFpu 2 ((s.setFreg n (s.freg n &&& 0x7FFFFFFF)).done 2)

/-- R512, double form: the field names the high word, which holds the sign. -/
def execFabsDR (n : DReg) (s : State) : Res := s.withFpu 2 ((s.setFreg n (s.freg n &&& 0x7FFFFFFF)).done 2)

/-- R513, single form. -/
def execFnegFR (n : FReg) (s : State) : Res := s.withFpu 2 ((s.setFreg n (s.freg n ^^^ 0x80000000)).done 2)

/-- R513, double form. -/
def execFnegDR (n : DReg) (s : State) : Res := s.withFpu 2 ((s.setFreg n (s.freg n ^^^ 0x80000000)).done 2)

/-! ### Add, subtract, multiply, divide, square root -/

/-- R514, single. -/
def execFaddFR (m n : FReg) (s : State) : Res := s.fpToFr n (fpAdd .single s.fpEnv (s.fr n) (s.fr m))

/-- R514, double. -/
def execFaddDR (m n : DReg) (s : State) : Res := s.fpToDr n (fpAdd .double s.fpEnv (s.dr n) (s.dr m))

/-- R515, single. -/
def execFsubFR (m n : FReg) (s : State) : Res := s.fpToFr n (fpSub .single s.fpEnv (s.fr n) (s.fr m))

/-- R515, double. -/
def execFsubDR (m n : DReg) (s : State) : Res := s.fpToDr n (fpSub .double s.fpEnv (s.dr n) (s.dr m))

/-- R516, single. -/
def execFmulFR (m n : FReg) (s : State) : Res := s.fpToFr n (fpMul .single s.fpEnv (s.fr n) (s.fr m))

/-- R516, double. -/
def execFmulDR (m n : DReg) (s : State) : Res := s.fpToDr n (fpMul .double s.fpEnv (s.dr n) (s.dr m))

/-- R517, single. -/
def execFdivFR (m n : FReg) (s : State) : Res := s.fpToFr n (fpDiv .single s.fpEnv (s.fr n) (s.fr m))

/-- R517, double. -/
def execFdivDR (m n : DReg) (s : State) : Res := s.fpToDr n (fpDiv .double s.fpEnv (s.dr n) (s.dr m))

/-- R518; an illegal form with PR = 1 (R506). -/
def execFmac (m n : FReg) (s : State) : Res :=
  s.withFpu 2 (s.withPrecision false (s.fpToFr n (fpMac s.fpEnv (s.fr 0) (s.fr m) (s.fr n))))

/-- R536, single. -/
def execFsqrtFR (n : FReg) (s : State) : Res := s.fpToFr n (fpSqrt .single s.fpEnv (s.fr n))

/-- R536, double. -/
def execFsqrtDR (n : DReg) (s : State) : Res := s.fpToDr n (fpSqrt .double s.fpEnv (s.dr n))

/-! ### Compare -/

/-- A comparison: T from the relation; `invalid` says which relations raise V, and T is 0 for those even when the
instruction traps (R521, R522). -/
def State.fpCompareT (s : State) (rel want : FpRel) (invalid : Bool) : Res :=
  s.withFpu 2 (
    if invalid then
      let t := (s.fpRaise raiseV).setT false
      if s.fpEnv.enV then t.fpuTrap else t.done 2
    else ((s.fpRaise 0).setT (rel == want)).done 2)

/-- FCMP/EQ on a relation: only a signalling NaN is invalid (R521). -/
def State.fcmpEq (s : State) (rel : FpRel) : Res := s.fpCompareT rel .eq (rel == .invalid)

/-- FCMP/GT on a relation: any NaN is invalid (R522). -/
def State.fcmpGt (s : State) (rel : FpRel) : Res := s.fpCompareT rel .gt (rel == .invalid || rel == .unordered)

/-- R521, single. -/
def execFcmpEqFR (m n : FReg) (s : State) : Res := s.fcmpEq (fpCompare .single s.fpEnv (s.fr n) (s.fr m))

/-- R521, double. -/
def execFcmpEqDR (m n : DReg) (s : State) : Res := s.fcmpEq (fpCompare .double s.fpEnv (s.dr n) (s.dr m))

/-- R522, single. -/
def execFcmpGtFR (m n : FReg) (s : State) : Res := s.fcmpGt (fpCompare .single s.fpEnv (s.fr n) (s.fr m))

/-- R522, double. -/
def execFcmpGtDR (m n : DReg) (s : State) : Res := s.fcmpGt (fpCompare .double s.fpEnv (s.dr n) (s.dr m))

/-! ### Conversions -/

/-- R523; an illegal form with PR = 0 (R506). -/
def execFcnvds (m : DReg) (s : State) : Res :=
  s.withFpu 2 (s.withPrecision true (s.fpToFpul (fpDoubleToSingle s.fpEnv (s.dr m))))

/-- R524; an illegal form with PR = 0 (R506). -/
def execFcnvsd (n : DReg) (s : State) : Res :=
  s.withFpu 2 (s.withPrecision true (s.fpToDr n (fpSingleToDouble s.fpEnv s.fpul.toNat)))

/-- R530, single. -/
def execFloatFR (n : FReg) (s : State) : Res := s.fpToFr n (fpFloatSingle s.fpEnv s.fpul.toInt)

/-- R530, double. -/
def execFloatDR (n : DReg) (s : State) : Res := s.fpToDr n (fpFloatDouble s.fpEnv s.fpul.toInt)

/-- R531, single. -/
def execFtrcFR (m : FReg) (s : State) : Res := s.fpToFpul (fpTruncSingle s.fpEnv (s.fr m))

/-- R531, double. -/
def execFtrcDR (m : DReg) (s : State) : Res := s.fpToFpul (fpTruncDouble s.fpEnv (s.dr m))

end Sys2Proof.Machine
end

