-- ==== Sys2Proof/Machine/FloatTransfer.lean ====
section
/-!
DEFINITION. The floating-point transfers and the FPU-related CPU instructions (spec/47_fpu_transfer.md). Data move as bit
patterns; no FPU exception is raised (R560). The decoder has already chosen between the form of one register and the form
of a pair by FPSCR.SZ (R561, log 6). All are undefined codes without a running FPU (R141).
-/

namespace Sys2Proof.Machine

open Sys2Proof

/-- A loaded longword into FRn. -/
def frInto (n : FReg) (r : Word × State) : State := r.2.setFreg n r.1

/-- A loaded quad into DRn (R561). -/
def drInto (n : DReg) (r : Quad × State) : State := r.2.setDreg n r.1

/-! ### Register to register -/

/-- R562. -/
def execFmovFR (m n : FReg) (s : State) : Res := s.withFpu 2 ((s.setFreg n (s.freg m)).done 2)

/-- R563. -/
def execFmovDR (m n : DReg) (s : State) : Res := s.withFpu 2 ((s.setDreg n (s.dreg m)).done 2)

/-! ### Register indirect -/

/-- R564. -/
def execFmovSStore (m : FReg) (n : GReg) (s : State) : Res := s.withFpu 2 ((s.store32 (s.reg n) (s.freg m)).done 2)

/-- R565. -/
def execFmovDStore (m : DReg) (n : GReg) (s : State) : Res := s.withFpu 2 ((s.store64 (s.reg n) (s.dreg m)).done 2)

/-- R566. -/
def execFmovSLoad (m : GReg) (n : FReg) (s : State) : Res := s.withFpu 2 ((frInto n (s.load32 (s.reg m))).done 2)

/-- R567. -/
def execFmovDLoad (m : GReg) (n : DReg) (s : State) : Res := s.withFpu 2 ((drInto n (s.load64 (s.reg m))).done 2)

/-- R568. -/
def execFmovSLoadPostInc (m : GReg) (n : FReg) (s : State) : Res :=
  s.withFpu 2 (((frInto n (s.load32 (s.reg m))).setReg m (s.reg m + 4)).done 2)

/-- R569. -/
def execFmovDLoadPostInc (m : GReg) (n : DReg) (s : State) : Res :=
  s.withFpu 2 (((drInto n (s.load64 (s.reg m))).setReg m (s.reg m + 8)).done 2)

/-- R570. -/
def execFmovSStorePreDec (m : FReg) (n : GReg) (s : State) : Res :=
  s.withFpu 2 (((s.store32 (s.reg n - 4) (s.freg m)).setReg n (s.reg n - 4)).done 2)

/-- R571. -/
def execFmovDStorePreDec (m : DReg) (n : GReg) (s : State) : Res :=
  s.withFpu 2 (((s.store64 (s.reg n - 8) (s.dreg m)).setReg n (s.reg n - 8)).done 2)

/-! ### Indexed by R0 -/

/-- R572. -/
def execFmovSLoadIdx (m : GReg) (n : FReg) (s : State) : Res :=
  s.withFpu 2 ((frInto n (s.load32 (s.eaIndexed m))).done 2)

/-- R573. -/
def execFmovDLoadIdx (m : GReg) (n : DReg) (s : State) : Res :=
  s.withFpu 2 ((drInto n (s.load64 (s.eaIndexed m))).done 2)

/-- R574, one register. -/
def execFmovSStoreIdx (m : FReg) (n : GReg) (s : State) : Res :=
  s.withFpu 2 ((s.store32 (s.eaIndexed n) (s.freg m)).done 2)

/-- R574, a pair. -/
def execFmovDStoreIdx (m : DReg) (n : GReg) (s : State) : Res :=
  s.withFpu 2 ((s.store64 (s.eaIndexed n) (s.dreg m)).done 2)

/-! ### Twelve-bit displacement: 32-bit instructions, slot illegal; the displacement is scaled by the size (R575, R576) -/

/-- R575. -/
def execFmovSStoreDisp12 (m : FReg) (n : GReg) (d : BitVec 12) (s : State) : Res :=
  s.withFpu 4 (s.outsideSlot 4 ((s.store32 (s.eaDisp n d 2) (s.freg m)).done 4))

/-- R576. -/
def execFmovDStoreDisp12 (m : DReg) (n : GReg) (d : BitVec 12) (s : State) : Res :=
  s.withFpu 4 (s.outsideSlot 4 ((s.store64 (s.eaDisp n d 3) (s.dreg m)).done 4))

/-- R577. -/
def execFmovSLoadDisp12 (m : GReg) (n : FReg) (d : BitVec 12) (s : State) : Res :=
  s.withFpu 4 (s.outsideSlot 4 ((frInto n (s.load32 (s.eaDisp m d 2))).done 4))

/-- R578. -/
def execFmovDLoadDisp12 (m : GReg) (n : DReg) (d : BitVec 12) (s : State) : Res :=
  s.withFpu 4 (s.outsideSlot 4 ((drInto n (s.load64 (s.eaDisp m d 3))).done 4))

/-! ### FPUL transfers and constants -/

/-- R579. -/
def execFlds (m : FReg) (s : State) : Res := s.withFpu 2 ((s.setFpul (s.freg m)).done 2)

/-- R580. -/
def execFsts (n : FReg) (s : State) : Res := s.withFpu 2 ((s.setFreg n s.fpul).done 2)

/-- R581; an illegal form with PR = 1 (R506). -/
def execFldi0 (n : FReg) (s : State) : Res := s.withFpu 2 (s.withPrecision false ((s.setFreg n 0).done 2))

/-- R582; an illegal form with PR = 1 (R506). -/
def execFldi1 (n : FReg) (s : State) : Res :=
  s.withFpu 2 (s.withPrecision false ((s.setFreg n 0x3F800000).done 2))

/-- R583: inverts SZ alone; an illegal form with PR = 1 (R506). -/
def execFschg (s : State) : Res :=
  s.withFpu 2 (s.withPrecision false (State.done { s with fpscr := s.fpscr ^^^ 0x00100000 } 2))

/-! ### LDS and STS with FPUL and FPSCR -/

/-- R584. -/
def execLdsFpul (m : GReg) (s : State) : Res := s.withFpu 2 ((s.setFpul (s.reg m)).done 2)

/-- R585. -/
def execLdsLFpul (m : GReg) (s : State) : Res := s.withFpu 2 ((s.loadControl m State.setFpul).done 2)

/-- R586. -/
def execLdsFpscr (m : GReg) (s : State) : Res := s.withFpu 2 ((s.setFpscr (s.reg m)).done 2)

/-- R587. -/
def execLdsLFpscr (m : GReg) (s : State) : Res := s.withFpu 2 ((s.loadControl m State.setFpscr).done 2)

/-- R588. -/
def execStsFpul (n : GReg) (s : State) : Res := s.withFpu 2 (s.putReg 2 n s.fpul)

/-- R589 (log 18). -/
def execStsFpscr (n : GReg) (s : State) : Res := s.withFpu 2 (s.putReg 2 n (s.fpscr &&& s.cfg.fpscrMask))

/-- R590. -/
def execStsLFpul (n : GReg) (s : State) : Res := s.withFpu 2 ((s.storeControl n s.fpul).done 2)

/-- R591 (log 18). -/
def execStsLFpscr (n : GReg) (s : State) : Res :=
  s.withFpu 2 ((s.storeControl n (s.fpscr &&& s.cfg.fpscrMask)).done 2)

end Sys2Proof.Machine
end

