-- ==== Sys2Proof/Machine/Dispatch.lean ====
section
/-!
DEFINITION. One arm per constructor of `Instr`: the meaning of each instruction.
-/

namespace Sys2Proof.Machine

open Sys2Proof

def exec (i : Instr) (s : State) : Host.Outcome State Fault Refusal :=
  match i with
  | .movImm n imm => Sys2Proof.Machine.execMovImm n imm s
  | .movWPcRel n d => Sys2Proof.Machine.execMovWPcRel n d s
  | .movLPcRel n d => Sys2Proof.Machine.execMovLPcRel n d s
  | .movReg m n => Sys2Proof.Machine.execMovReg m n s
  | .movBStore m n => Sys2Proof.Machine.execMovBStore m n s
  | .movWStore m n => Sys2Proof.Machine.execMovWStore m n s
  | .movLStore m n => Sys2Proof.Machine.execMovLStore m n s
  | .movBLoad m n => Sys2Proof.Machine.execMovBLoad m n s
  | .movWLoad m n => Sys2Proof.Machine.execMovWLoad m n s
  | .movLLoad m n => Sys2Proof.Machine.execMovLLoad m n s
  | .movBStorePreDec m n => Sys2Proof.Machine.execMovBStorePreDec m n s
  | .movWStorePreDec m n => Sys2Proof.Machine.execMovWStorePreDec m n s
  | .movLStorePreDec m n => Sys2Proof.Machine.execMovLStorePreDec m n s
  | .movBLoadPostInc m n => Sys2Proof.Machine.execMovBLoadPostInc m n s
  | .movWLoadPostInc m n => Sys2Proof.Machine.execMovWLoadPostInc m n s
  | .movLLoadPostInc m n => Sys2Proof.Machine.execMovLLoadPostInc m n s
  | .movBStoreDisp4 n d => Sys2Proof.Machine.execMovBStoreDisp4 n d s
  | .movWStoreDisp4 n d => Sys2Proof.Machine.execMovWStoreDisp4 n d s
  | .movLStoreDisp4 m n d => Sys2Proof.Machine.execMovLStoreDisp4 m n d s
  | .movBLoadDisp4 m d => Sys2Proof.Machine.execMovBLoadDisp4 m d s
  | .movWLoadDisp4 m d => Sys2Proof.Machine.execMovWLoadDisp4 m d s
  | .movLLoadDisp4 m n d => Sys2Proof.Machine.execMovLLoadDisp4 m n d s
  | .movBStoreIdx m n => Sys2Proof.Machine.execMovBStoreIdx m n s
  | .movWStoreIdx m n => Sys2Proof.Machine.execMovWStoreIdx m n s
  | .movLStoreIdx m n => Sys2Proof.Machine.execMovLStoreIdx m n s
  | .movBLoadIdx m n => Sys2Proof.Machine.execMovBLoadIdx m n s
  | .movWLoadIdx m n => Sys2Proof.Machine.execMovWLoadIdx m n s
  | .movLLoadIdx m n => Sys2Proof.Machine.execMovLLoadIdx m n s
  | .movBStoreGbr d => Sys2Proof.Machine.execMovBStoreGbr d s
  | .movWStoreGbr d => Sys2Proof.Machine.execMovWStoreGbr d s
  | .movLStoreGbr d => Sys2Proof.Machine.execMovLStoreGbr d s
  | .movBLoadGbr d => Sys2Proof.Machine.execMovBLoadGbr d s
  | .movWLoadGbr d => Sys2Proof.Machine.execMovWLoadGbr d s
  | .movLLoadGbr d => Sys2Proof.Machine.execMovLLoadGbr d s
  | .movBStorePostInc n => Sys2Proof.Machine.execMovBStorePostInc n s
  | .movWStorePostInc n => Sys2Proof.Machine.execMovWStorePostInc n s
  | .movLStorePostInc n => Sys2Proof.Machine.execMovLStorePostInc n s
  | .movBLoadPreDec m => Sys2Proof.Machine.execMovBLoadPreDec m s
  | .movWLoadPreDec m => Sys2Proof.Machine.execMovWLoadPreDec m s
  | .movLLoadPreDec m => Sys2Proof.Machine.execMovLLoadPreDec m s
  | .movBStoreDisp12 m n d => Sys2Proof.Machine.execMovBStoreDisp12 m n d s
  | .movWStoreDisp12 m n d => Sys2Proof.Machine.execMovWStoreDisp12 m n d s
  | .movLStoreDisp12 m n d => Sys2Proof.Machine.execMovLStoreDisp12 m n d s
  | .movBLoadDisp12 m n d => Sys2Proof.Machine.execMovBLoadDisp12 m n d s
  | .movWLoadDisp12 m n d => Sys2Proof.Machine.execMovWLoadDisp12 m n d s
  | .movLLoadDisp12 m n d => Sys2Proof.Machine.execMovLLoadDisp12 m n d s
  | .movuBLoadDisp12 m n d => Sys2Proof.Machine.execMovuBLoadDisp12 m n d s
  | .movuWLoadDisp12 m n d => Sys2Proof.Machine.execMovuWLoadDisp12 m n d s
  | .mova d => Sys2Proof.Machine.execMova d s
  | .movi20 n imm => Sys2Proof.Machine.execMovi20 n imm s
  | .movi20s n imm => Sys2Proof.Machine.execMovi20s n imm s
  | .movmlPush m => Sys2Proof.Machine.execMovmlPush m s
  | .movmlPop n => Sys2Proof.Machine.execMovmlPop n s
  | .movmuPush m => Sys2Proof.Machine.execMovmuPush m s
  | .movmuPop n => Sys2Proof.Machine.execMovmuPop n s
  | .movrt n => Sys2Proof.Machine.execMovrt n s
  | .movt n => Sys2Proof.Machine.execMovt n s
  | .nott => Sys2Proof.Machine.execNott s
  | .pref n => Sys2Proof.Machine.execPref n s
  | .swapB m n => Sys2Proof.Machine.execSwapB m n s
  | .swapW m n => Sys2Proof.Machine.execSwapW m n s
  | .xtrct m n => Sys2Proof.Machine.execXtrct m n s
  | .add m n => Sys2Proof.Machine.execAdd m n s
  | .addImm n imm => Sys2Proof.Machine.execAddImm n imm s
  | .addc m n => Sys2Proof.Machine.execAddc m n s
  | .addv m n => Sys2Proof.Machine.execAddv m n s
  | .neg m n => Sys2Proof.Machine.execNeg m n s
  | .negc m n => Sys2Proof.Machine.execNegc m n s
  | .sub m n => Sys2Proof.Machine.execSub m n s
  | .subc m n => Sys2Proof.Machine.execSubc m n s
  | .subv m n => Sys2Proof.Machine.execSubv m n s
  | .cmpEqImm imm => Sys2Proof.Machine.execCmpEqImm imm s
  | .cmpEq m n => Sys2Proof.Machine.execCmpEq m n s
  | .cmpHs m n => Sys2Proof.Machine.execCmpHs m n s
  | .cmpGe m n => Sys2Proof.Machine.execCmpGe m n s
  | .cmpHi m n => Sys2Proof.Machine.execCmpHi m n s
  | .cmpGt m n => Sys2Proof.Machine.execCmpGt m n s
  | .cmpPl n => Sys2Proof.Machine.execCmpPl n s
  | .cmpPz n => Sys2Proof.Machine.execCmpPz n s
  | .cmpStr m n => Sys2Proof.Machine.execCmpStr m n s
  | .dt n => Sys2Proof.Machine.execDt n s
  | .clipsB n => Sys2Proof.Machine.execClipsB n s
  | .clipsW n => Sys2Proof.Machine.execClipsW n s
  | .clipuB n => Sys2Proof.Machine.execClipuB n s
  | .clipuW n => Sys2Proof.Machine.execClipuW n s
  | .extsB m n => Sys2Proof.Machine.execExtsB m n s
  | .extsW m n => Sys2Proof.Machine.execExtsW m n s
  | .extuB m n => Sys2Proof.Machine.execExtuB m n s
  | .extuW m n => Sys2Proof.Machine.execExtuW m n s
  | .div0s m n => Sys2Proof.Machine.execDiv0s m n s
  | .div0u => Sys2Proof.Machine.execDiv0u s
  | .div1 m n => Sys2Proof.Machine.execDiv1 m n s
  | .divs n => Sys2Proof.Machine.execDivs n s
  | .divu n => Sys2Proof.Machine.execDivu n s
  | .dmulsL m n => Sys2Proof.Machine.execDmulsL m n s
  | .dmuluL m n => Sys2Proof.Machine.execDmuluL m n s
  | .mulL m n => Sys2Proof.Machine.execMulL m n s
  | .mulr n => Sys2Proof.Machine.execMulr n s
  | .macL m n => Sys2Proof.Machine.execMacL m n s
  | .andReg m n => Sys2Proof.Machine.execAndReg m n s
  | .andImm imm => Sys2Proof.Machine.execAndImm imm s
  | .andBGbr imm => Sys2Proof.Machine.execAndBGbr imm s
  | .notReg m n => Sys2Proof.Machine.execNotReg m n s
  | .orReg m n => Sys2Proof.Machine.execOrReg m n s
  | .orImm imm => Sys2Proof.Machine.execOrImm imm s
  | .orBGbr imm => Sys2Proof.Machine.execOrBGbr imm s
  | .tasB n => Sys2Proof.Machine.execTasB n s
  | .tstReg m n => Sys2Proof.Machine.execTstReg m n s
  | .tstImm imm => Sys2Proof.Machine.execTstImm imm s
  | .tstBGbr imm => Sys2Proof.Machine.execTstBGbr imm s
  | .xorReg m n => Sys2Proof.Machine.execXorReg m n s
  | .xorImm imm => Sys2Proof.Machine.execXorImm imm s
  | .xorBGbr imm => Sys2Proof.Machine.execXorBGbr imm s
  | .rotl n => Sys2Proof.Machine.execRotl n s
  | .rotr n => Sys2Proof.Machine.execRotr n s
  | .rotcl n => Sys2Proof.Machine.execRotcl n s
  | .rotcr n => Sys2Proof.Machine.execRotcr n s
  | .shal n => Sys2Proof.Machine.execShal n s
  | .shar n => Sys2Proof.Machine.execShar n s
  | .shll n => Sys2Proof.Machine.execShll n s
  | .shlr n => Sys2Proof.Machine.execShlr n s
  | .shll2 n => Sys2Proof.Machine.execShll2 n s
  | .shll8 n => Sys2Proof.Machine.execShll8 n s
  | .shll16 n => Sys2Proof.Machine.execShll16 n s
  | .shlr2 n => Sys2Proof.Machine.execShlr2 n s
  | .shlr8 n => Sys2Proof.Machine.execShlr8 n s
  | .shlr16 n => Sys2Proof.Machine.execShlr16 n s
  | .shad m n => Sys2Proof.Machine.execShad m n s
  | .shld m n => Sys2Proof.Machine.execShld m n s
  | .bf d => Sys2Proof.Machine.execBf d s
  | .bfS d => Sys2Proof.Machine.execBfS d s
  | .bt d => Sys2Proof.Machine.execBt d s
  | .btS d => Sys2Proof.Machine.execBtS d s
  | .bra d => Sys2Proof.Machine.execBra d s
  | .braf m => Sys2Proof.Machine.execBraf m s
  | .jmp m => Sys2Proof.Machine.execJmp m s
  | .bsr d => Sys2Proof.Machine.execBsr d s
  | .bsrf m => Sys2Proof.Machine.execBsrf m s
  | .jsr m => Sys2Proof.Machine.execJsr m s
  | .rts => Sys2Proof.Machine.execRts s
  | .jsrNTbr d => Sys2Proof.Machine.execJsrNTbr d s
  | .jsrN m => Sys2Proof.Machine.execJsrN m s
  | .rtsN => Sys2Proof.Machine.execRtsN s
  | .rtvN m => Sys2Proof.Machine.execRtvN m s
  | .clrt => Sys2Proof.Machine.execClrt s
  | .sett => Sys2Proof.Machine.execSett s
  | .clrmac => Sys2Proof.Machine.execClrmac s
  | .nop => Sys2Proof.Machine.execNop s
  | .ldcSr m => Sys2Proof.Machine.execLdcSr m s
  | .ldcGbr m => Sys2Proof.Machine.execLdcGbr m s
  | .ldcVbr m => Sys2Proof.Machine.execLdcVbr m s
  | .ldcTbr m => Sys2Proof.Machine.execLdcTbr m s
  | .ldcLSr m => Sys2Proof.Machine.execLdcLSr m s
  | .ldcLGbr m => Sys2Proof.Machine.execLdcLGbr m s
  | .ldcLVbr m => Sys2Proof.Machine.execLdcLVbr m s
  | .ldsMach m => Sys2Proof.Machine.execLdsMach m s
  | .ldsMacl m => Sys2Proof.Machine.execLdsMacl m s
  | .ldsPr m => Sys2Proof.Machine.execLdsPr m s
  | .ldsLMach m => Sys2Proof.Machine.execLdsLMach m s
  | .ldsLMacl m => Sys2Proof.Machine.execLdsLMacl m s
  | .ldsLPr m => Sys2Proof.Machine.execLdsLPr m s
  | .rte => Sys2Proof.Machine.execRte s
  | .sleep => Sys2Proof.Machine.execSleep s
  | .trapa imm => Sys2Proof.Machine.execTrapa imm s
  | .stcSr n => Sys2Proof.Machine.execStcSr n s
  | .stcGbr n => Sys2Proof.Machine.execStcGbr n s
  | .stcVbr n => Sys2Proof.Machine.execStcVbr n s
  | .stcTbr n => Sys2Proof.Machine.execStcTbr n s
  | .stcLSr n => Sys2Proof.Machine.execStcLSr n s
  | .stcLGbr n => Sys2Proof.Machine.execStcLGbr n s
  | .stcLVbr n => Sys2Proof.Machine.execStcLVbr n s
  | .stsMach n => Sys2Proof.Machine.execStsMach n s
  | .stsMacl n => Sys2Proof.Machine.execStsMacl n s
  | .stsPr n => Sys2Proof.Machine.execStsPr n s
  | .stsLMach n => Sys2Proof.Machine.execStsLMach n s
  | .stsLMacl n => Sys2Proof.Machine.execStsLMacl n s
  | .stsLPr n => Sys2Proof.Machine.execStsLPr n s
  | .resbank => Sys2Proof.Machine.execResbank s
  | .ldbank m => Sys2Proof.Machine.execLdbank m s
  | .stbank n => Sys2Proof.Machine.execStbank n s
  | .bandB n imm d => Sys2Proof.Machine.execBandB n imm d s
  | .bandnotB n imm d => Sys2Proof.Machine.execBandnotB n imm d s
  | .borB n imm d => Sys2Proof.Machine.execBorB n imm d s
  | .bornotB n imm d => Sys2Proof.Machine.execBornotB n imm d s
  | .bxorB n imm d => Sys2Proof.Machine.execBxorB n imm d s
  | .bldB n imm d => Sys2Proof.Machine.execBldB n imm d s
  | .bldReg n imm => Sys2Proof.Machine.execBldReg n imm s
  | .bldnotB n imm d => Sys2Proof.Machine.execBldnotB n imm d s
  | .bclrB n imm d => Sys2Proof.Machine.execBclrB n imm d s
  | .bclrReg n imm => Sys2Proof.Machine.execBclrReg n imm s
  | .bsetB n imm d => Sys2Proof.Machine.execBsetB n imm d s
  | .bsetReg n imm => Sys2Proof.Machine.execBsetReg n imm s
  | .bstB n imm d => Sys2Proof.Machine.execBstB n imm d s
  | .bstReg n imm => Sys2Proof.Machine.execBstReg n imm s
  | .mulsW m n => Sys2Proof.Machine.execMulsW m n s
  | .muluW m n => Sys2Proof.Machine.execMuluW m n s
  | .macW m n => Sys2Proof.Machine.execMacW m n s
  | .fabsFR n => Sys2Proof.Machine.execFabsFR n s
  | .fabsDR n => Sys2Proof.Machine.execFabsDR n s
  | .faddFR m n => Sys2Proof.Machine.execFaddFR m n s
  | .faddDR m n => Sys2Proof.Machine.execFaddDR m n s
  | .fcmpEqFR m n => Sys2Proof.Machine.execFcmpEqFR m n s
  | .fcmpEqDR m n => Sys2Proof.Machine.execFcmpEqDR m n s
  | .fcmpGtFR m n => Sys2Proof.Machine.execFcmpGtFR m n s
  | .fcmpGtDR m n => Sys2Proof.Machine.execFcmpGtDR m n s
  | .fcnvds m => Sys2Proof.Machine.execFcnvds m s
  | .fcnvsd n => Sys2Proof.Machine.execFcnvsd n s
  | .fdivFR m n => Sys2Proof.Machine.execFdivFR m n s
  | .fdivDR m n => Sys2Proof.Machine.execFdivDR m n s
  | .floatFR n => Sys2Proof.Machine.execFloatFR n s
  | .floatDR n => Sys2Proof.Machine.execFloatDR n s
  | .fmac m n => Sys2Proof.Machine.execFmac m n s
  | .fmulFR m n => Sys2Proof.Machine.execFmulFR m n s
  | .fmulDR m n => Sys2Proof.Machine.execFmulDR m n s
  | .fnegFR n => Sys2Proof.Machine.execFnegFR n s
  | .fnegDR n => Sys2Proof.Machine.execFnegDR n s
  | .fsqrtFR n => Sys2Proof.Machine.execFsqrtFR n s
  | .fsqrtDR n => Sys2Proof.Machine.execFsqrtDR n s
  | .fsubFR m n => Sys2Proof.Machine.execFsubFR m n s
  | .fsubDR m n => Sys2Proof.Machine.execFsubDR m n s
  | .ftrcFR m => Sys2Proof.Machine.execFtrcFR m s
  | .ftrcDR m => Sys2Proof.Machine.execFtrcDR m s
  | .fmovFR m n => Sys2Proof.Machine.execFmovFR m n s
  | .fmovDR m n => Sys2Proof.Machine.execFmovDR m n s
  | .fmovSStore m n => Sys2Proof.Machine.execFmovSStore m n s
  | .fmovDStore m n => Sys2Proof.Machine.execFmovDStore m n s
  | .fmovSLoad m n => Sys2Proof.Machine.execFmovSLoad m n s
  | .fmovDLoad m n => Sys2Proof.Machine.execFmovDLoad m n s
  | .fmovSLoadPostInc m n => Sys2Proof.Machine.execFmovSLoadPostInc m n s
  | .fmovDLoadPostInc m n => Sys2Proof.Machine.execFmovDLoadPostInc m n s
  | .fmovSStorePreDec m n => Sys2Proof.Machine.execFmovSStorePreDec m n s
  | .fmovDStorePreDec m n => Sys2Proof.Machine.execFmovDStorePreDec m n s
  | .fmovSLoadIdx m n => Sys2Proof.Machine.execFmovSLoadIdx m n s
  | .fmovDLoadIdx m n => Sys2Proof.Machine.execFmovDLoadIdx m n s
  | .fmovSStoreIdx m n => Sys2Proof.Machine.execFmovSStoreIdx m n s
  | .fmovDStoreIdx m n => Sys2Proof.Machine.execFmovDStoreIdx m n s
  | .fmovSStoreDisp12 m n d => Sys2Proof.Machine.execFmovSStoreDisp12 m n d s
  | .fmovDStoreDisp12 m n d => Sys2Proof.Machine.execFmovDStoreDisp12 m n d s
  | .fmovSLoadDisp12 m n d => Sys2Proof.Machine.execFmovSLoadDisp12 m n d s
  | .fmovDLoadDisp12 m n d => Sys2Proof.Machine.execFmovDLoadDisp12 m n d s
  | .flds m => Sys2Proof.Machine.execFlds m s
  | .fsts n => Sys2Proof.Machine.execFsts n s
  | .fldi0 n => Sys2Proof.Machine.execFldi0 n s
  | .fldi1 n => Sys2Proof.Machine.execFldi1 n s
  | .fschg => Sys2Proof.Machine.execFschg s
  | .ldsFpul m => Sys2Proof.Machine.execLdsFpul m s
  | .ldsLFpul m => Sys2Proof.Machine.execLdsLFpul m s
  | .ldsFpscr m => Sys2Proof.Machine.execLdsFpscr m s
  | .ldsLFpscr m => Sys2Proof.Machine.execLdsLFpscr m s
  | .stsFpul n => Sys2Proof.Machine.execStsFpul n s
  | .stsFpscr n => Sys2Proof.Machine.execStsFpscr n s
  | .stsLFpul n => Sys2Proof.Machine.execStsLFpul n s
  | .stsLFpscr n => Sys2Proof.Machine.execStsLFpscr n s

end Sys2Proof.Machine
end

