-- ==== Sys2Proof/Machine/Events.lean ====
section
/-!
DEFINITION. What happens at a step besides the instruction itself: resets (R800 to R802), interrupts (R760 to R762), the
other platform exceptions (R726, R728), the environment's own actions (R16), the order of events (R703, D23) and the
instruction fetch (R90).
-/

namespace Sys2Proof.Machine

open Sys2Proof

/-! ### Interrupts -/

/-- The vector number of a request (R711). -/
def IntReq.vector : IntReq → BitVec 9
  | .nmi => 11
  | .userBreak => 12
  | .hudi => 14
  | .irq _ v => BitVec.ofNat 9 (64 + v.val)
  | .peripheral _ v => BitVec.ofNat 9 (64 + v.val)

/-- The priority level of a request, 0 to 16 (R761). -/
def IntReq.priority : IntReq → Nat
  | .nmi => 16
  | .userBreak => 15
  | .hudi => 15
  | .irq l _ => l.toNat
  | .peripheral l _ => l.toNat

/-- The level that acceptance writes to IMASK; 15 for NMI (R762). -/
def IntReq.maskLevel : IntReq → BitVec 4
  | .nmi => 15
  | .userBreak => 15
  | .hudi => 15
  | .irq l _ => l
  | .peripheral l _ => l

/-- NMI always, any other request only above IMASK (R760). -/
def State.acceptable (s : State) (r : IntReq) : Bool := r == .nmi || decide (s.imask.toNat < r.priority)

/-- Whether a request may use the banks: never NMI and the user break (R50). -/
def IntReq.bankable : IntReq → Bool
  | .nmi => false
  | .userBreak => false
  | .hudi => true
  | .irq _ _ => true
  | .peripheral _ _ => true

/-- Whether an accepted request uses the banks, by IBNR.BE and IBCR; the reserved BE = 10 is taken as disabled (R50, U20,
log 15). -/
def State.usesBank (s : State) (r : IntReq) : Bool :=
  s.cfg.hasBanks && r.bankable &&
    (s.ibnrBe == 1 || (s.ibnrBe == 3 && s.ibcr.getLsbD r.maskLevel.toNat))

/-- Interrupt entry (R762): in place of the interrupt's own entry the bank overflow exception when the banks are full and
BOVE = 1 (R745); otherwise with no save, a bank save or a stack save. -/
def State.interruptEntry (s : State) (r : IntReq) : State :=
  let full := decide (s.banks.length ≤ s.bn)
  if s.usesBank r then
    if full then
      if s.ibnrBove then s.enter .bankOverflow s.pc (some r.maskLevel) .nowhere
      else s.enter (.interrupt r.vector) s.pc (some r.maskLevel) .toStack
    else s.enter (.interrupt r.vector) s.pc (some r.maskLevel) .toBank
  else s.enter (.interrupt r.vector) s.pc (some r.maskLevel) .nowhere

/-! ### Reset of a running machine -/

/-- The address of a reset's PC vector; its SP vector is the next longword (R801, R802). -/
def ResetKind.vectorAddress : ResetKind → Word
  | .powerOn => 0x00000000
  | .manual => 0x00000008

/-- What both resets do (R801, R802): PC and R15 from their vectors, VBR, IMASK, BO, CS and BN as stated, no slot, no
exception held or pending, Run; every register the manual calls undefined takes an open value (D2, log 13). What is pending
is the head entry of the inputs: a signal that waits behind a slot or ranked below an exception entered before (log 11). -/
def State.resetCpu (s : State) (pc sp : Word) : State :=
  let c := s.freeCount
  { s with
    regs := Vector.ofFn (fun i => if i.val = 15 then sp else Config.freeWord (c + i.val))
    pc := pc
    sr := (Config.freeWord (c + 16) &&& 0x00000303) ||| 0x000000F0
    gbr := Config.freeWord (c + 17)
    vbr := 0
    tbr := Config.freeWord (c + 18)
    mach := Config.freeWord (c + 19)
    macl := Config.freeWord (c + 20)
    pr := Config.freeWord (c + 21)
    slot := .none
    held := false
    power := .run
    bn := 0
    inputs := s.inputs.tail
    freeCount := c + 22 }

/-- What a power-on reset does beside (R801): FPSCR on a product with an FPU, IBNR and IBCR cleared; the FPU registers and
the bank contents take open values (R57, log 13). -/
def State.resetRest (s : State) : State :=
  let c := s.freeCount
  { s with
    fregs := Vector.ofFn (fun i => Config.freeWord (c + i.val))
    fpul := Config.freeWord (c + 16)
    fpscr := if s.cfg.hasFpu then 0x00040001 else s.fpscr
    banks := (List.range s.banks.length).map (fun b => Vector.ofFn (fun i => Config.freeWord (c + 17 + 20 * b + i.val)))
    ibcr := 0
    ibnrBe := 0
    ibnrBove := false
    freeCount := c + 17 + 20 * s.banks.length }

/-- A reset of a running machine. Memory keeps its contents (R802). A vector in a range forbidden to data accesses is
outside the model (U25). -/
def State.resetMachine (s : State) (k : ResetKind) : Res :=
  match s.read32 k.vectorAddress, s.read32 (k.vectorAddress + 4) with
  | some pc, some sp =>
    .next (match k with
      | .powerOn => (s.resetCpu pc sp).resetRest
      | .manual => s.resetCpu pc sp)
  | _, _ => .refused .resetVectorForbidden

/-! ### The environment -/

/-- The bytes that other bus masters write, in their order (R16(iv), R781). -/
def State.busWrites (s : State) (ws : List (Word × Byte)) : State := ws.foldl (fun t w => t.poke w.1 w.2) s

/-- The reset that the environment asks for at this step (R800, R802; log 12). -/
def State.resetSignal (s : State) : Option ResetKind := s.outside.head?.bind Outside.reset

/-- What the environment does before a step: its writes, and FPU_STOPPED where it changes (R8, R16; log 29, log 35). An
entry serves one step, in or out of a slot. -/
def State.environment (s : State) : State :=
  match s.outside with
  | [] => s
  | o :: rest =>
    let t := s.busWrites o.writes
    { t with fpuStopped := o.fpuStopped.getD s.fpuStopped, outside := rest }

/-! ### The order of events -/

/-- What a step does that no reset comes before. -/
inductive Event where
  /-- An exception entered between instructions, or nothing while the power is low. -/
  | next (s : State)
  /-- The instruction at the program counter. -/
  | execute (s : State)
deriving DecidableEq, Repr

/-- The request of one boundary, if it is acceptable (R760). -/
def State.acceptedRequest (s : State) (i : Inputs) : Option IntReq := i.request.filter s.acceptable

/-- The entries to come when `i` is what is left of the present one: what ranks below the exception entered now stays for
the next boundary, and an entry with nothing left is used up (R701, log 11). -/
def Inputs.keepPending (i : Inputs) (rest : List Inputs) : List Inputs :=
  if i.dmacError || i.ramError || i.request.isSome then i :: rest else rest

/-- A boundary with one entry of inputs (R703 steps 2 to 5). -/
def State.boundary (s : State) (i : Inputs) (rest : List Inputs) : Event :=
  if s.power = .lowPower ∧ s.acceptedRequest i = none then .next { s with inputs := rest }
  else if i.dmacError then
    .next (State.raise { s with inputs := Inputs.keepPending { i with dmacError := false } rest } .dmacAddressError s.pc)
  else if i.ramError then
    .next (State.raise { s with inputs := Inputs.keepPending { i with ramError := false } rest } .ramError s.pc)
  else
    match s.acceptedRequest i with
    | some r => .next (State.interruptEntry { s with inputs := rest } r)
    | none => .execute { s with inputs := rest }

/-- The event of a step without a reset: nothing but the slot instruction while a branch is pending (R422, R750); then a
held address error (rank 3 of R701); then the boundary (R703), which nothing signalled leaves to the instruction or to the
low-power state (R780). -/
def State.event (s : State) : Event :=
  match s.slot with
  | .taken _ => .execute s
  | _ =>
    if s.held then .next (s.raise .cpuAddressError s.pc)
    else
      match s.inputs with
      | i :: rest => s.boundary i rest
      | [] => if s.power = .lowPower then .next s else .execute s

/-! ### Instruction fetch (R90) -/

/-- What the fetch at the program counter gives. -/
inductive Fetched where
  | instruction (i : Instr)
  /-- An undefined code of `len` bytes (R126, R140). -/
  | undefined (len : Word)
  /-- A fetch from an odd address or a forbidden one. -/
  | addressError
deriving DecidableEq, Repr

/-- Whether one code unit may be fetched at an address (R90). -/
def State.canFetch (s : State) (a : Word) : Bool :=
  !(a.getLsbD 0) && !(s.cfg.fetchForbidden.any (·.holds a))

/-- The two bytes of the code unit at an address; a fetch reads memory itself (R90, log 34). -/
def State.unitAt (s : State) (a : Word) : List Byte := [Memory.read s.mem a.toNat, Memory.read s.mem (a + 1).toNat]

/-- Whether the code unit at the program counter announces a 32-bit instruction (R124). -/
def State.longAtPc (s : State) : Bool :=
  isLong (Memory.read s.mem s.pc.toNat ++ Memory.read s.mem (s.pc + 1).toNat)

/-- Fetches and decodes the instruction at the program counter: the second code unit is fetched when the first announces
it (R90, log 27). -/
def State.fetch (s : State) : Fetched :=
  if !s.canFetch s.pc then .addressError
  else if s.longAtPc && !s.canFetch (s.pc + 2) then .addressError
  else
    match decode s.fpMode (s.unitAt s.pc ++ s.unitAt (s.pc + 2)) with
    | .instruction i _ => .instruction i
    | .undefined16 _ => .undefined 2
    | .undefined32 _ _ => .undefined 4
    | .truncated => .undefined 2

/-- The address error of a fetch: nothing executes; in the slot of a taken branch the branch completes (R90, R750 point
3, D24). -/
def State.fetchError (s : State) : State :=
  match s.slot with
  | .taken target => (s.goto target).raise .cpuAddressError target
  | _ => s.raise .cpuAddressError s.pc

/-- Stores bytes from an address up. -/
def State.placeBytes (s : State) (a : Word) : List Byte → State
  | [] => s
  | b :: bs => State.placeBytes { s with mem := Memory.write s.mem a.toNat b } (a + 1) bs

end Sys2Proof.Machine
end

