-- ==== Sys2Proof/Machine/Step.lean ====
section
/-!
DEFINITION. One step of the machine: what the environment does before it, then a reset, or the event that R703 puts
first, or the instruction at the program counter. A delayed branch and its slot instruction are two steps, with no boundary between
them (R440, log 10).
-/

namespace Sys2Proof.Machine

open Sys2Proof

/-- The instruction at the program counter, with the exceptions of its fetch and decode (R90, R731, R732). -/
def State.runInstruction (s : State) : Res :=
  match s.fetch with
  | .instruction i => exec i s
  | .undefined len => .next (s.illegal len)
  | .addressError => .next s.fetchError

/-- A step that no reset comes before (R703 steps 2 to 5). -/
def State.stepNoReset (s : State) : Res :=
  match s.event with
  | .next t => .next t
  | .execute t => t.runInstruction

/-- One step: a reset is examined first at every step, whatever is in progress (R16, R703, R800). -/
def step (s : State) : Host.Outcome State Fault Refusal :=
  match s.resetSignal with
  | some k => s.environment.resetMachine k
  | none => s.environment.stepNoReset

/-- The state with an instruction of the opcode table in memory where the next fetch reads it: the first code unit at the
program counter and the second after it, zero for a 16-bit row (log 4, log 5). -/
def State.withFetchWord (s : State) (nbits w : Nat) : State :=
  s.placeBytes s.pc (unitBytes
    (if nbits ≤ 16 then [BitVec.ofNat 16 w, 0] else [BitVec.ofNat 16 (w >>> 16), BitVec.ofNat 16 w]))

end Sys2Proof.Machine
end

