-- ==== Sys2Proof/Safety.lean ====
section
/-!
DEFINITION. The terms in which claims are made: where control stands after an instruction, the invariant of every state,
what two states have in common, and the numbers that floating-point patterns stand for.
-/

namespace Sys2Proof

/-! ### Kinds of instructions -/

/-- The instructions that are illegal in a delay slot: those that rewrite PC (RTS/N among them, D14), the 32-bit ones,
RESBANK, DIVS and DIVU (R142). -/
def Instr.slotIllegal (i : Instr) : Bool :=
  match i with
  | .jmp _ | .jsr _ | .bra _ | .bsr _ | .rts | .rte | .bt _ | .bf _ | .trapa _ | .btS _ | .bfS _ | .bsrf _ | .braf _
  | .jsrN _ | .jsrNTbr _ | .rtvN _ | .rtsN | .resbank | .divs _ | .divu _ => true
  | _ => (encode i).length == 2

/-- The instructions that are undefined codes without a running FPU (R141). -/
def Instr.usesFpu : Instr → Bool
  | .fabsFR _ | .fabsDR _ | .faddFR _ _ | .faddDR _ _ | .fcmpEqFR _ _ | .fcmpEqDR _ _ | .fcmpGtFR _ _ | .fcmpGtDR _ _
  | .fcnvds _ | .fcnvsd _ | .fdivFR _ _ | .fdivDR _ _ | .floatFR _ | .floatDR _ | .fmac _ _ | .fmulFR _ _ | .fmulDR _ _
  | .fnegFR _ | .fnegDR _ | .fsqrtFR _ | .fsqrtDR _ | .fsubFR _ _ | .fsubDR _ _ | .ftrcFR _ | .ftrcDR _ | .fmovFR _ _
  | .fmovDR _ _ | .fmovSStore _ _ | .fmovDStore _ _ | .fmovSLoad _ _ | .fmovDLoad _ _ | .fmovSLoadPostInc _ _
  | .fmovDLoadPostInc _ _ | .fmovSStorePreDec _ _ | .fmovDStorePreDec _ _ | .fmovSLoadIdx _ _ | .fmovDLoadIdx _ _
  | .fmovSStoreIdx _ _ | .fmovDStoreIdx _ _ | .fmovSStoreDisp12 _ _ _ | .fmovDStoreDisp12 _ _ _
  | .fmovSLoadDisp12 _ _ _ | .fmovDLoadDisp12 _ _ _ | .flds _ | .fsts _ | .fldi0 _ | .fldi1 _ | .fschg | .ldsFpul _
  | .ldsLFpul _ | .ldsFpscr _ | .ldsLFpscr _ | .stsFpul _ | .stsFpscr _ | .stsLFpul _ | .stsLFpscr _ => true
  | _ => false

/-- The instructions that are undefined codes without register banks (R141). -/
def Instr.usesBanks : Instr → Bool
  | .resbank | .ldbank _ | .stbank _ => true
  | _ => false

/-- The forms that are illegal in the precision that FPSCR.PR selects (R506). -/
def Instr.wrongPrecision (pr : Bool) : Instr → Bool
  | .fcnvds _ | .fcnvsd _ => !pr
  | .fmac _ _ | .fldi0 _ | .fldi1 _ | .fschg => pr
  | _ => false

/-- The FPU instructions that clear Cause (R532). -/
def Instr.fpArithmetic : Instr → Bool
  | .faddFR _ _ | .faddDR _ _ | .fsubFR _ _ | .fsubDR _ _ | .fmulFR _ _ | .fmulDR _ _ | .fdivFR _ _ | .fdivDR _ _
  | .fmac _ _ | .fsqrtFR _ | .fsqrtDR _ | .fcmpEqFR _ _ | .fcmpEqDR _ _ | .fcmpGtFR _ _ | .fcmpGtDR _ _ | .fcnvds _
  | .fcnvsd _ | .floatFR _ | .floatDR _ | .ftrcFR _ | .ftrcDR _ => true
  | _ => false

/-- The instructions that write T from their result; LDC and LDC.L to SR and RTE write it with the whole of SR (R29). -/
def Instr.writesT : Instr → Bool
  | .addc _ _ | .addv _ _ | .cmpEqImm _ | .cmpEq _ _ | .cmpGe _ _ | .cmpGt _ _ | .cmpHi _ _ | .cmpHs _ _ | .cmpPl _
  | .cmpPz _ | .cmpStr _ _ | .div0s _ _ | .div0u | .div1 _ _ | .dt _ | .negc _ _ | .subc _ _ | .subv _ _ | .tasB _
  | .tstReg _ _ | .tstImm _ | .tstBGbr _ | .rotl _ | .rotr _ | .rotcl _ | .rotcr _ | .shal _ | .shar _ | .shll _ | .shlr _
  | .clrt | .sett | .nott | .fcmpEqFR _ _ | .fcmpEqDR _ _ | .fcmpGtFR _ _ | .fcmpGtDR _ _ | .bandB _ _ _
  | .bandnotB _ _ _ | .bldB _ _ _ | .bldReg _ _ | .bldnotB _ _ _ | .borB _ _ _ | .bornotB _ _ _ | .bxorB _ _ _ => true
  | _ => false

end Sys2Proof

namespace Sys2Proof.Machine

open Sys2Proof

/-! ### Where control goes -/

/-- The state after an instruction of `len` bytes that raised nothing: control at the branch target when the instruction
stood in the slot of a taken branch, otherwise at the next instruction; no slot pending (R421, R440). -/
def State.after (s : State) (len : Word) : State :=
  match s.slot with
  | .taken target => { s with pc := target, slot := .none }
  | _ => { s with pc := s.pc + len, slot := .none }

/-- The address an exception that follows an instruction of `len` bytes saves: where control goes next (R750). -/
def State.following (s : State) (len : Word) : Word :=
  match s.slot with
  | .taken target => target
  | _ => s.pc + len

/-! ### The invariant -/

/-- What holds of every state of a run: memory in its one form, no reserved bit of SR or FPSCR set (R28, R45), 1 to 512
register banks (R8, R46) and no more in use than exist (R47), the reserved bit of IBCR clear (R48), one of the two FPSCR
masks (R45), and no branch pending while the power is low (R780). -/
structure State.Inv (s : State) : Prop where
  memory : Memory.wf s.mem
  status : s.sr &&& ~~~srMask = 0
  mask : s.cfg.fpscrMask = 0x003FFFFF ∨ s.cfg.fpscrMask = 0x007FFFFF
  fpscr : s.fpscr &&& ~~~s.cfg.fpscrMask = 0
  banks : s.bn ≤ s.banks.length
  count : 1 ≤ s.banks.length ∧ s.banks.length ≤ 512
  control : s.ibcr.getLsbD 0 = false
  lowPower : s.power = .lowPower → s.slot = .none

/-! ### What two states have in common -/

/-- Every general register but those listed holds what it held. -/
def SameRegs (s t : State) (ks : List GReg) : Prop := ∀ k, k ∉ ks → t.reg k = s.reg k

/-- Every floating-point register but those listed holds what it held. -/
def SameFregs (s t : State) (ks : List FReg) : Prop := ∀ k, k ∉ ks → t.freg k = s.freg k

/-- SR is the same outside the bits of `bits`. -/
def SameStatus (s t : State) (bits : Word) : Prop := t.sr &&& ~~~bits = s.sr &&& ~~~bits

/-- The control and system registers beside SR and PC. -/
inductive Special where
  | gbr
  | vbr
  | tbr
  | mach
  | macl
  | pr
  | fpul
  | fpscr
deriving DecidableEq, Repr

/-- The content of a control or system register. -/
def State.special (s : State) : Special → Word
  | .gbr => s.gbr
  | .vbr => s.vbr
  | .tbr => s.tbr
  | .mach => s.mach
  | .macl => s.macl
  | .pr => s.pr
  | .fpul => s.fpul
  | .fpscr => s.fpscr

/-- Every control and system register but those listed holds what it held. -/
def SameSpecials (s t : State) (ks : List Special) : Prop := ∀ k, k ∉ ks → t.special k = s.special k

/-- The register banks and BN hold what they held. -/
def SameBanks (s t : State) : Prop := t.banks = s.banks ∧ t.bn = s.bn

/-- What no instruction changes: the product, the FPU's module-stop state, and the signals and acts of the platform still
to come. -/
def SamePlatform (s t : State) : Prop :=
  t.cfg = s.cfg ∧ t.fpuStopped = s.fpuStopped ∧ t.inputs = s.inputs ∧ t.outside = s.outside

/-- Every byte of the address space reads as before. -/
def SameMemory (s t : State) : Prop := ∀ a, t.peek a = s.peek a

/-- Every byte outside the `size` bytes from `first` up reads as before. -/
def SameMemoryOutside (s t : State) (first : Word) (size : Nat) : Prop :=
  ∀ a, (∀ k : Nat, k < size → a ≠ first + BitVec.ofNat 32 k) → t.peek a = s.peek a

/-- The `size` bytes from `first` up are memory, not a register of the bank controller (R48, R49). -/
def State.plain (s : State) (first : Word) (size : Nat) : Prop :=
  ∀ k : Nat, k < size → bankByteAt s.cfg (first + BitVec.ofNat 32 k) = none

/-- Two states agree but for the listed general and floating-point registers, SR bits and control and system registers;
memory, PC and the slot are not spoken of. -/
def SameBut (s t : State) (ks : List GReg) (fs : List FReg) (bits : Word) (xs : List Special) : Prop :=
  SameRegs s t ks ∧ SameFregs s t fs ∧ SameStatus s t bits ∧ SameSpecials s t xs ∧ SameBanks s t ∧ SamePlatform s t

/-! ### Exception entry -/

/-- The accesses of an entry through the vector of `e` are allowed: the vector and the two longwords below R15 (R716). -/
def State.entryAllowed (s : State) (e : Exc) : Prop :=
  s.canAccess 4 (s.vbr + e.vector <<< 2) = true ∧ s.canAccess 4 (s.reg 15 - 4) = true ∧
    s.canAccess 4 (s.reg 15 - 8) = true

/-! ### Numbers -/

/-- The magnitude of an exact number stands for the real `r`: it is `r`, or with a sticky part the two lie within one
unit of the magnitude, which then has more significant bits than the format keeps (R509). -/
def Exact.standsFor (x : Exact) (f : Fmt) (r : ℝ) : Prop :=
  if x.sticky then
    (x.mant : ℝ) * 2 ^ x.exp < r ∧ r < ((x.mant : ℝ) + 1) * 2 ^ x.exp ∧ f.precision ≤ Nat.log2 x.mant
  else r = (x.mant : ℝ) * 2 ^ x.exp

/-- The integer is the number with its fraction discarded (R531). -/
def truncates (z : Int) (v : ℚ) : Prop :=
  |(z : ℚ)| ≤ |v| ∧ |v| < |(z : ℚ)| + 1 ∧ (0 ≤ v → 0 ≤ z) ∧ (v ≤ 0 → z ≤ 0)

/-- The number a rounded magnitude stands for. -/
def Rounded.value (r : Rounded) : ℚ := r.mant * 2 ^ r.exp

/-- The number a finite class stands for; a denormalized operand counts as zero (R502). -/
def FpNum.value : FpNum → ℚ
  | .norm neg mant exp => (if neg then -1 else 1) * mant * 2 ^ exp
  | _ => 0

/-- The floating-point instructions run in the manual's documented setting: FPU present and running, DN = 1, no enable
bit set (so QIS plays no part), nothing held (R43, R141). -/
def State.fpPlain (s : State) : Prop :=
  s.fpuReady = true ∧ s.held = false ∧ s.fpscr.getLsbD 18 = true ∧ s.fpscr &&& 0x00000F80 = 0

end Sys2Proof.Machine
end

