-- ==== Sys2Proof/Certificates/Slice0/Obligations.lean ====
section
/-!
DEFINITION. The statements for the provers, from the numbered rules of spec/. Each names in OBLIGATIONS.json the rules or
sections it rests on. Addresses are 32-bit words and wrap; `s.after len` is the state after an instruction of `len` bytes
that raised nothing, with control at the next instruction or, in a slot, at the branch target.
-/

section

open Sys2Proof Sys2Proof.Machine

/-- MOV, MOVA, MOVI20, MOVI20S, MOVRT, MOVT, NOTT, PREF, SWAP, XTRCT: code and effect. MOVA after an untaken branch
  reads PC as outside a slot: the spec's decision D13 (log 10). Basis: R201, R204, R249, R250, R251, R257, R258,
    R261, R262, R263, R264, R265. -/
def Obligations.register_moves : Prop :=
  (∀ (n : GReg) (i : BitVec 8) (s : State), encode (.movImm n i) = [0xE#4 ++ n ++ i] ∧
    (s.held = false →
      exec (.movImm n i) s = .next ((s.setReg n (i.signExtend 32)).after 2))) ∧
  (∀ (m n : GReg) (s : State), encode (.movReg m n) = [0x6#4 ++ n ++ m ++ 0x3#4] ∧
    (s.held = false →
      exec (.movReg m n) s = .next ((s.setReg n (s.reg m)).after 2))) ∧
  (∀ (d : BitVec 8) (s : State), encode (.mova d) = [0xC#4 ++ 0x7#4 ++ d] ∧
    (s.held = false →
      ∀ pcv : Word, ((∀ t, s.slot = .taken t → pcv = t + 2) ∧ ((∀ t, s.slot ≠ .taken t) → pcv = s.pc + 4)) →
      exec (.mova d) s = .next ((s.setReg 0 ((pcv &&& 0xFFFFFFFC) + d.setWidth 32 * 4)).after 2))) ∧
  (∀ (n : GReg) (i : BitVec 20) (s : State), encode (.movi20 n i) = [0x0#4 ++ n ++ i.extractLsb' 16 4 ++ 0x0#4,
    i.extractLsb' 0 16] ∧
    (s.held = false → s.slot = .none →
      exec (.movi20 n i) s = .next ((s.setReg n (i.signExtend 32)).after 4))) ∧
  (∀ (n : GReg) (i : BitVec 20) (s : State), encode (.movi20s n i) = [0x0#4 ++ n ++ i.extractLsb' 16 4 ++ 0x1#4,
    i.extractLsb' 0 16] ∧
    (s.held = false → s.slot = .none →
      exec (.movi20s n i) s = .next ((s.setReg n (i.signExtend 24 ++ 0#8)).after 4))) ∧
  (∀ (n : GReg) (s : State), encode (.movrt n) = [0x0#4 ++ n ++ 0x3#4 ++ 0x9#4] ∧
    (s.held = false →
      exec (.movrt n) s = .next ((s.setReg n (if s.t then 0 else 1)).after 2))) ∧
  (∀ (n : GReg) (s : State), encode (.movt n) = [0x0#4 ++ n ++ 0x2#4 ++ 0x9#4] ∧
    (s.held = false →
      exec (.movt n) s = .next ((s.setReg n (if s.t then 1 else 0)).after 2))) ∧
  (∀ (s : State), encode .nott = [0x0#4 ++ 0x0#4 ++ 0x6#4 ++ 0x8#4] ∧
    (s.held = false →
      exec .nott s = .next ((s.setT (!s.t)).after 2))) ∧
  (∀ (n : GReg) (s : State), encode (.pref n) = [0x0#4 ++ n ++ 0x8#4 ++ 0x3#4] ∧
    (s.held = false →
      exec (.pref n) s = .next (s.after 2))) ∧
  (∀ (m n : GReg) (s : State), encode (.swapB m n) = [0x6#4 ++ n ++ m ++ 0x8#4] ∧
    (s.held = false →
      exec (.swapB m n) s = .next ((s.setReg n ((s.reg m).extractLsb' 16 16 ++ (s.reg m).extractLsb' 0 8 ++ (s.reg
        m).extractLsb' 8 8)).after 2))) ∧
  (∀ (m n : GReg) (s : State), encode (.swapW m n) = [0x6#4 ++ n ++ m ++ 0x9#4] ∧
    (s.held = false →
      exec (.swapW m n) s = .next ((s.setReg n ((s.reg m).extractLsb' 0 16 ++ (s.reg m).extractLsb' 16 16)).after
        2))) ∧
  (∀ (m n : GReg) (s : State), encode (.xtrct m n) = [0x2#4 ++ n ++ m ++ 0xD#4] ∧
    (s.held = false →
      exec (.xtrct m n) s = .next ((s.setReg n ((s.reg m).extractLsb' 0 16 ++ (s.reg n).extractLsb' 16 16)).after 2)))

/-- MOV loads: PC-relative, register indirect, disp4, indexed: code and effect. A PC-relative operand after an
  untaken branch reads PC as outside a slot: the spec's decision D13 (log 10). Basis: R202, R203, R208, R209, R210,
    R222, R223, R224, R228, R229, R230. -/
def Obligations.plain_loads : Prop :=
  (∀ (n : GReg) (d : BitVec 8) (s : State), encode (.movWPcRel n d) = [0x9#4 ++ n ++ d] ∧
    (s.held = false →
      ∀ pcv : Word, ((∀ t, s.slot = .taken t → pcv = t + 2) ∧ ((∀ t, s.slot ≠ .taken t) → pcv = s.pc + 4)) →
      s.canAccess 2 (pcv + d.setWidth 32 * 2) = true →
      exec (.movWPcRel n d) s = .next ((s.setReg n ((s.peek16 (pcv + d.setWidth 32 * 2)).signExtend 32)).after 2))) ∧
  (∀ (n : GReg) (d : BitVec 8) (s : State), encode (.movLPcRel n d) = [0xD#4 ++ n ++ d] ∧
    (s.held = false →
      ∀ pcv : Word, ((∀ t, s.slot = .taken t → pcv = t + 2) ∧ ((∀ t, s.slot ≠ .taken t) → pcv = s.pc + 4)) →
      s.canAccess 4 ((pcv &&& 0xFFFFFFFC) + d.setWidth 32 * 4) = true →
      exec (.movLPcRel n d) s = .next ((s.setReg n (s.peek32 ((pcv &&& 0xFFFFFFFC) + d.setWidth 32 * 4))).after 2))) ∧
  (∀ (m n : GReg) (s : State), encode (.movBLoad m n) = [0x6#4 ++ n ++ m ++ 0x0#4] ∧
    (s.held = false → s.canAccess 1 (s.reg m) = true →
      exec (.movBLoad m n) s = .next ((s.setReg n ((s.peek (s.reg m)).signExtend 32)).after 2))) ∧
  (∀ (m n : GReg) (s : State), encode (.movWLoad m n) = [0x6#4 ++ n ++ m ++ 0x1#4] ∧
    (s.held = false → s.canAccess 2 (s.reg m) = true →
      exec (.movWLoad m n) s = .next ((s.setReg n ((s.peek16 (s.reg m)).signExtend 32)).after 2))) ∧
  (∀ (m n : GReg) (s : State), encode (.movLLoad m n) = [0x6#4 ++ n ++ m ++ 0x2#4] ∧
    (s.held = false → s.canAccess 4 (s.reg m) = true →
      exec (.movLLoad m n) s = .next ((s.setReg n (s.peek32 (s.reg m))).after 2))) ∧
  (∀ (m : GReg) (d : BitVec 4) (s : State), encode (.movBLoadDisp4 m d) = [0x8#4 ++ 0x4#4 ++ m ++ d] ∧
    (s.held = false → s.canAccess 1 (s.reg m + d.setWidth 32) = true →
      exec (.movBLoadDisp4 m d) s = .next ((s.setReg 0 ((s.peek (s.reg m + d.setWidth 32)).signExtend 32)).after 2)))
        ∧
  (∀ (m : GReg) (d : BitVec 4) (s : State), encode (.movWLoadDisp4 m d) = [0x8#4 ++ 0x5#4 ++ m ++ d] ∧
    (s.held = false → s.canAccess 2 (s.reg m + d.setWidth 32 * 2) = true →
      exec (.movWLoadDisp4 m d) s = .next ((s.setReg 0 ((s.peek16 (s.reg m + d.setWidth 32 * 2)).signExtend
        32)).after 2))) ∧
  (∀ (m n : GReg) (d : BitVec 4) (s : State), encode (.movLLoadDisp4 m n d) = [0x5#4 ++ n ++ m ++ d] ∧
    (s.held = false → s.canAccess 4 (s.reg m + d.setWidth 32 * 4) = true →
      exec (.movLLoadDisp4 m n d) s = .next ((s.setReg n (s.peek32 (s.reg m + d.setWidth 32 * 4))).after 2))) ∧
  (∀ (m n : GReg) (s : State), encode (.movBLoadIdx m n) = [0x0#4 ++ n ++ m ++ 0xC#4] ∧
    (s.held = false → s.canAccess 1 (s.reg m + s.reg 0) = true →
      exec (.movBLoadIdx m n) s = .next ((s.setReg n ((s.peek (s.reg m + s.reg 0)).signExtend 32)).after 2))) ∧
  (∀ (m n : GReg) (s : State), encode (.movWLoadIdx m n) = [0x0#4 ++ n ++ m ++ 0xD#4] ∧
    (s.held = false → s.canAccess 2 (s.reg m + s.reg 0) = true →
      exec (.movWLoadIdx m n) s = .next ((s.setReg n ((s.peek16 (s.reg m + s.reg 0)).signExtend 32)).after 2))) ∧
  (∀ (m n : GReg) (s : State), encode (.movLLoadIdx m n) = [0x0#4 ++ n ++ m ++ 0xE#4] ∧
    (s.held = false → s.canAccess 4 (s.reg m + s.reg 0) = true →
      exec (.movLLoadIdx m n) s = .next ((s.setReg n (s.peek32 (s.reg m + s.reg 0))).after 2)))

/-- MOV loads with post-increment, with pre-decrement, and GBR relative: code and effect. Basis: R216, R217, R218,
  R240, R241, R242, R234, R235, R236. -/
def Obligations.updating_loads : Prop :=
  (∀ (m n : GReg) (s : State), encode (.movBLoadPostInc m n) = [0x6#4 ++ n ++ m ++ 0x4#4] ∧
    (s.held = false → s.canAccess 1 (s.reg m) = true →
      exec (.movBLoadPostInc m n) s = .next ((if n = m then s.setReg n ((s.peek (s.reg m)).signExtend 32) else
        (s.setReg n ((s.peek (s.reg m)).signExtend 32)).setReg m (s.reg m + 1)).after 2))) ∧
  (∀ (m n : GReg) (s : State), encode (.movWLoadPostInc m n) = [0x6#4 ++ n ++ m ++ 0x5#4] ∧
    (s.held = false → s.canAccess 2 (s.reg m) = true →
      exec (.movWLoadPostInc m n) s = .next ((if n = m then s.setReg n ((s.peek16 (s.reg m)).signExtend 32) else
        (s.setReg n ((s.peek16 (s.reg m)).signExtend 32)).setReg m (s.reg m + 2)).after 2))) ∧
  (∀ (m n : GReg) (s : State), encode (.movLLoadPostInc m n) = [0x6#4 ++ n ++ m ++ 0x6#4] ∧
    (s.held = false → s.canAccess 4 (s.reg m) = true →
      exec (.movLLoadPostInc m n) s = .next ((if n = m then s.setReg n (s.peek32 (s.reg m)) else (s.setReg n
        (s.peek32 (s.reg m))).setReg m (s.reg m + 4)).after 2))) ∧
  (∀ (m : GReg) (s : State), encode (.movBLoadPreDec m) = [0x4#4 ++ m ++ 0xC#4 ++ 0xB#4] ∧
    (s.held = false → s.canAccess 1 (s.reg m - 1) = true →
      exec (.movBLoadPreDec m) s = .next (((s.setReg m (s.reg m - 1)).setReg 0 ((s.peek (s.reg m - 1)).signExtend
        32)).after 2))) ∧
  (∀ (m : GReg) (s : State), encode (.movWLoadPreDec m) = [0x4#4 ++ m ++ 0xD#4 ++ 0xB#4] ∧
    (s.held = false → s.canAccess 2 (s.reg m - 2) = true →
      exec (.movWLoadPreDec m) s = .next (((s.setReg m (s.reg m - 2)).setReg 0 ((s.peek16 (s.reg m - 2)).signExtend
        32)).after 2))) ∧
  (∀ (m : GReg) (s : State), encode (.movLLoadPreDec m) = [0x4#4 ++ m ++ 0xE#4 ++ 0xB#4] ∧
    (s.held = false → s.canAccess 4 (s.reg m - 4) = true →
      exec (.movLLoadPreDec m) s = .next (((s.setReg m (s.reg m - 4)).setReg 0 (s.peek32 (s.reg m - 4))).after 2))) ∧
  (∀ (d : BitVec 8) (s : State), encode (.movBLoadGbr d) = [0xC#4 ++ 0x4#4 ++ d] ∧
    (s.held = false → s.canAccess 1 (s.gbr + d.setWidth 32) = true →
      exec (.movBLoadGbr d) s = .next ((s.setReg 0 ((s.peek (s.gbr + d.setWidth 32)).signExtend 32)).after 2))) ∧
  (∀ (d : BitVec 8) (s : State), encode (.movWLoadGbr d) = [0xC#4 ++ 0x5#4 ++ d] ∧
    (s.held = false → s.canAccess 2 (s.gbr + d.setWidth 32 * 2) = true →
      exec (.movWLoadGbr d) s = .next ((s.setReg 0 ((s.peek16 (s.gbr + d.setWidth 32 * 2)).signExtend 32)).after 2)))
        ∧
  (∀ (d : BitVec 8) (s : State), encode (.movLLoadGbr d) = [0xC#4 ++ 0x6#4 ++ d] ∧
    (s.held = false → s.canAccess 4 (s.gbr + d.setWidth 32 * 4) = true →
      exec (.movLLoadGbr d) s = .next ((s.setReg 0 (s.peek32 (s.gbr + d.setWidth 32 * 4))).after 2)))

/-- MOV and MOVU with 12-bit displacement: code and effect outside a slot. Basis: R243, R244, R245, R246, R247, R248,
  R259, R260. -/
def Obligations.disp12_transfers : Prop :=
  (∀ (m n : GReg) (d : BitVec 12) (s : State), encode (.movBStoreDisp12 m n d) = [0x3#4 ++ n ++ m ++ 0x1#4, 0x0#4 ++
    d] ∧
    (s.held = false → s.slot = .none → s.canAccess 1 (s.reg n + d.setWidth 32) = true →
      exec (.movBStoreDisp12 m n d) s = .next ((s.poke (s.reg n + d.setWidth 32) ((s.reg m).setWidth 8)).after 4))) ∧
  (∀ (m n : GReg) (d : BitVec 12) (s : State), encode (.movWStoreDisp12 m n d) = [0x3#4 ++ n ++ m ++ 0x1#4, 0x1#4 ++
    d] ∧
    (s.held = false → s.slot = .none → s.canAccess 2 (s.reg n + d.setWidth 32 * 2) = true →
      exec (.movWStoreDisp12 m n d) s = .next ((s.poke16 (s.reg n + d.setWidth 32 * 2) ((s.reg m).setWidth 16)).after
        4))) ∧
  (∀ (m n : GReg) (d : BitVec 12) (s : State), encode (.movLStoreDisp12 m n d) = [0x3#4 ++ n ++ m ++ 0x1#4, 0x2#4 ++
    d] ∧
    (s.held = false → s.slot = .none → s.canAccess 4 (s.reg n + d.setWidth 32 * 4) = true →
      exec (.movLStoreDisp12 m n d) s = .next ((s.poke32 (s.reg n + d.setWidth 32 * 4) (s.reg m)).after 4))) ∧
  (∀ (m n : GReg) (d : BitVec 12) (s : State), encode (.movBLoadDisp12 m n d) = [0x3#4 ++ n ++ m ++ 0x1#4, 0x4#4 ++
    d] ∧
    (s.held = false → s.slot = .none → s.canAccess 1 (s.reg m + d.setWidth 32) = true →
      exec (.movBLoadDisp12 m n d) s = .next ((s.setReg n ((s.peek (s.reg m + d.setWidth 32)).signExtend 32)).after
        4))) ∧
  (∀ (m n : GReg) (d : BitVec 12) (s : State), encode (.movWLoadDisp12 m n d) = [0x3#4 ++ n ++ m ++ 0x1#4, 0x5#4 ++
    d] ∧
    (s.held = false → s.slot = .none → s.canAccess 2 (s.reg m + d.setWidth 32 * 2) = true →
      exec (.movWLoadDisp12 m n d) s = .next ((s.setReg n ((s.peek16 (s.reg m + d.setWidth 32 * 2)).signExtend
        32)).after 4))) ∧
  (∀ (m n : GReg) (d : BitVec 12) (s : State), encode (.movLLoadDisp12 m n d) = [0x3#4 ++ n ++ m ++ 0x1#4, 0x6#4 ++
    d] ∧
    (s.held = false → s.slot = .none → s.canAccess 4 (s.reg m + d.setWidth 32 * 4) = true →
      exec (.movLLoadDisp12 m n d) s = .next ((s.setReg n (s.peek32 (s.reg m + d.setWidth 32 * 4))).after 4))) ∧
  (∀ (m n : GReg) (d : BitVec 12) (s : State), encode (.movuBLoadDisp12 m n d) = [0x3#4 ++ n ++ m ++ 0x1#4, 0x8#4 ++
    d] ∧
    (s.held = false → s.slot = .none → s.canAccess 1 (s.reg m + d.setWidth 32) = true →
      exec (.movuBLoadDisp12 m n d) s = .next ((s.setReg n ((s.peek (s.reg m + d.setWidth 32)).setWidth 32)).after
        4))) ∧
  (∀ (m n : GReg) (d : BitVec 12) (s : State), encode (.movuWLoadDisp12 m n d) = [0x3#4 ++ n ++ m ++ 0x1#4, 0x9#4 ++
    d] ∧
    (s.held = false → s.slot = .none → s.canAccess 2 (s.reg m + d.setWidth 32 * 2) = true →
      exec (.movuWLoadDisp12 m n d) s = .next ((s.setReg n ((s.peek16 (s.reg m + d.setWidth 32 * 2)).setWidth
        32)).after 4)))

/-- MOV stores: register indirect, pre-decrement, disp4, indexed: code and effect. Basis: R205, R206, R207, R213,
  R214, R215, R219, R220, R221, R225, R226, R227. -/
def Obligations.plain_stores : Prop :=
  (∀ (m n : GReg) (s : State), encode (.movBStore m n) = [0x2#4 ++ n ++ m ++ 0x0#4] ∧
    (s.held = false → s.canAccess 1 (s.reg n) = true →
      exec (.movBStore m n) s = .next ((s.poke (s.reg n) ((s.reg m).setWidth 8)).after 2))) ∧
  (∀ (m n : GReg) (s : State), encode (.movWStore m n) = [0x2#4 ++ n ++ m ++ 0x1#4] ∧
    (s.held = false → s.canAccess 2 (s.reg n) = true →
      exec (.movWStore m n) s = .next ((s.poke16 (s.reg n) ((s.reg m).setWidth 16)).after 2))) ∧
  (∀ (m n : GReg) (s : State), encode (.movLStore m n) = [0x2#4 ++ n ++ m ++ 0x2#4] ∧
    (s.held = false → s.canAccess 4 (s.reg n) = true →
      exec (.movLStore m n) s = .next ((s.poke32 (s.reg n) (s.reg m)).after 2))) ∧
  (∀ (m n : GReg) (s : State), encode (.movBStorePreDec m n) = [0x2#4 ++ n ++ m ++ 0x4#4] ∧
    (s.held = false → s.canAccess 1 (s.reg n - 1) = true →
      exec (.movBStorePreDec m n) s = .next (((s.poke (s.reg n - 1) ((s.reg m).setWidth 8)).setReg n (s.reg n -
        1)).after 2))) ∧
  (∀ (m n : GReg) (s : State), encode (.movWStorePreDec m n) = [0x2#4 ++ n ++ m ++ 0x5#4] ∧
    (s.held = false → s.canAccess 2 (s.reg n - 2) = true →
      exec (.movWStorePreDec m n) s = .next (((s.poke16 (s.reg n - 2) ((s.reg m).setWidth 16)).setReg n (s.reg n -
        2)).after 2))) ∧
  (∀ (m n : GReg) (s : State), encode (.movLStorePreDec m n) = [0x2#4 ++ n ++ m ++ 0x6#4] ∧
    (s.held = false → s.canAccess 4 (s.reg n - 4) = true →
      exec (.movLStorePreDec m n) s = .next (((s.poke32 (s.reg n - 4) (s.reg m)).setReg n (s.reg n - 4)).after 2))) ∧
  (∀ (n : GReg) (d : BitVec 4) (s : State), encode (.movBStoreDisp4 n d) = [0x8#4 ++ 0x0#4 ++ n ++ d] ∧
    (s.held = false → s.canAccess 1 (s.reg n + d.setWidth 32) = true →
      exec (.movBStoreDisp4 n d) s = .next ((s.poke (s.reg n + d.setWidth 32) ((s.reg 0).setWidth 8)).after 2))) ∧
  (∀ (n : GReg) (d : BitVec 4) (s : State), encode (.movWStoreDisp4 n d) = [0x8#4 ++ 0x1#4 ++ n ++ d] ∧
    (s.held = false → s.canAccess 2 (s.reg n + d.setWidth 32 * 2) = true →
      exec (.movWStoreDisp4 n d) s = .next ((s.poke16 (s.reg n + d.setWidth 32 * 2) ((s.reg 0).setWidth 16)).after
        2))) ∧
  (∀ (m n : GReg) (d : BitVec 4) (s : State), encode (.movLStoreDisp4 m n d) = [0x1#4 ++ n ++ m ++ d] ∧
    (s.held = false → s.canAccess 4 (s.reg n + d.setWidth 32 * 4) = true →
      exec (.movLStoreDisp4 m n d) s = .next ((s.poke32 (s.reg n + d.setWidth 32 * 4) (s.reg m)).after 2))) ∧
  (∀ (m n : GReg) (s : State), encode (.movBStoreIdx m n) = [0x0#4 ++ n ++ m ++ 0x4#4] ∧
    (s.held = false → s.canAccess 1 (s.reg n + s.reg 0) = true →
      exec (.movBStoreIdx m n) s = .next ((s.poke (s.reg n + s.reg 0) ((s.reg m).setWidth 8)).after 2))) ∧
  (∀ (m n : GReg) (s : State), encode (.movWStoreIdx m n) = [0x0#4 ++ n ++ m ++ 0x5#4] ∧
    (s.held = false → s.canAccess 2 (s.reg n + s.reg 0) = true →
      exec (.movWStoreIdx m n) s = .next ((s.poke16 (s.reg n + s.reg 0) ((s.reg m).setWidth 16)).after 2))) ∧
  (∀ (m n : GReg) (s : State), encode (.movLStoreIdx m n) = [0x0#4 ++ n ++ m ++ 0x6#4] ∧
    (s.held = false → s.canAccess 4 (s.reg n + s.reg 0) = true →
      exec (.movLStoreIdx m n) s = .next ((s.poke32 (s.reg n + s.reg 0) (s.reg m)).after 2)))

/-- MOV stores of R0: GBR relative and post-increment: code and effect. Basis: R231, R232, R233, R237, R238, R239. -/
def Obligations.gbr_and_postinc_stores : Prop :=
  (∀ (d : BitVec 8) (s : State), encode (.movBStoreGbr d) = [0xC#4 ++ 0x0#4 ++ d] ∧
    (s.held = false → s.canAccess 1 (s.gbr + d.setWidth 32) = true →
      exec (.movBStoreGbr d) s = .next ((s.poke (s.gbr + d.setWidth 32) ((s.reg 0).setWidth 8)).after 2))) ∧
  (∀ (d : BitVec 8) (s : State), encode (.movWStoreGbr d) = [0xC#4 ++ 0x1#4 ++ d] ∧
    (s.held = false → s.canAccess 2 (s.gbr + d.setWidth 32 * 2) = true →
      exec (.movWStoreGbr d) s = .next ((s.poke16 (s.gbr + d.setWidth 32 * 2) ((s.reg 0).setWidth 16)).after 2))) ∧
  (∀ (d : BitVec 8) (s : State), encode (.movLStoreGbr d) = [0xC#4 ++ 0x2#4 ++ d] ∧
    (s.held = false → s.canAccess 4 (s.gbr + d.setWidth 32 * 4) = true →
      exec (.movLStoreGbr d) s = .next ((s.poke32 (s.gbr + d.setWidth 32 * 4) (s.reg 0)).after 2))) ∧
  (∀ (n : GReg) (s : State), encode (.movBStorePostInc n) = [0x4#4 ++ n ++ 0x8#4 ++ 0xB#4] ∧
    (s.held = false → s.canAccess 1 (s.reg n) = true →
      exec (.movBStorePostInc n) s = .next (((s.poke (s.reg n) ((s.reg 0).setWidth 8)).setReg n (s.reg n + 1)).after
        2))) ∧
  (∀ (n : GReg) (s : State), encode (.movWStorePostInc n) = [0x4#4 ++ n ++ 0x9#4 ++ 0xB#4] ∧
    (s.held = false → s.canAccess 2 (s.reg n) = true →
      exec (.movWStorePostInc n) s = .next (((s.poke16 (s.reg n) ((s.reg 0).setWidth 16)).setReg n (s.reg n +
        2)).after 2))) ∧
  (∀ (n : GReg) (s : State), encode (.movLStorePostInc n) = [0x4#4 ++ n ++ 0xA#4 ++ 0xB#4] ∧
    (s.held = false → s.canAccess 4 (s.reg n) = true →
      exec (.movLStorePostInc n) s = .next (((s.poke32 (s.reg n) (s.reg 0)).setReg n (s.reg n + 4)).after 2)))

/-- MOVML.L and MOVMU.L: code, what is pushed where and what is popped into what. Basis: R252, R253, R254, R255. -/
def Obligations.multiple_register_moves : Prop :=
  (∀ (m : GReg) (s : State), encode (.movmlPush m) = [0x4#4 ++ m ++ 0xF#4 ++ 0x1#4] ∧
    (s.held = false → s.reg 15 &&& 3 = 0 → s.cfg.dataForbidden = [] → Memory.wf s.mem → s.plain (s.reg 15 - 64) 64 →
      ∃ t, exec (.movmlPush m) s = .next t ∧ t.reg 15 = s.reg 15 - BitVec.ofNat 32 (4 * (m.toNat + 1)) ∧
        (∀ j : Nat, j ≤ m.toNat → t.peek32 (s.reg 15 - BitVec.ofNat 32 (4 * (m.toNat - j + 1))) =
          if j = 15 then s.pr else s.reg (BitVec.ofNat 4 j)) ∧
        SameMemoryOutside s t (s.reg 15 - BitVec.ofNat 32 (4 * (m.toNat + 1))) (4 * (m.toNat + 1)) ∧
        SameRegs s t [15] ∧ SameSpecials s t [] ∧ SameFregs s t [] ∧ SameStatus s t 0 ∧ SameBanks s t ∧ SamePlatform
          s t ∧ t.pc = (s.after 2).pc ∧ t.slot = .none ∧ t.held = false ∧ t.power = s.power)) ∧
  (∀ (n : GReg) (s : State), encode (.movmlPop n) = [0x4#4 ++ n ++ 0xF#4 ++ 0x5#4] ∧
    (s.held = false → s.reg 15 &&& 3 = 0 → s.cfg.dataForbidden = [] →
      ∃ t, exec (.movmlPop n) s = .next t ∧ t.reg 15 = s.reg 15 + BitVec.ofNat 32 (4 * (n.toNat + 1)) ∧
        (∀ j : Nat, j ≤ n.toNat → j < 15 → t.reg (BitVec.ofNat 4 j) = s.peek32 (s.reg 15 + BitVec.ofNat 32 (4 * j))) ∧
        t.pr = (if n = 15 then s.peek32 (s.reg 15 + 60) else s.pr) ∧
        (∀ j : Nat, n.toNat < j → j < 15 → t.reg (BitVec.ofNat 4 j) = s.reg (BitVec.ofNat 4 j)) ∧
        SameSpecials s t [.pr] ∧ SameMemory s t ∧ SameFregs s t [] ∧ SameStatus s t 0 ∧ SameBanks s t ∧ SamePlatform
          s t ∧ t.pc = (s.after 2).pc ∧ t.slot = .none ∧ t.held = false ∧ t.power = s.power)) ∧
  (∀ (m : GReg) (s : State), encode (.movmuPush m) = [0x4#4 ++ m ++ 0xF#4 ++ 0x0#4] ∧
    (s.held = false → s.reg 15 &&& 3 = 0 → s.cfg.dataForbidden = [] → Memory.wf s.mem → s.plain (s.reg 15 - 64) 64 →
      ∃ t, exec (.movmuPush m) s = .next t ∧ t.reg 15 = s.reg 15 - BitVec.ofNat 32 (4 * (16 - m.toNat)) ∧
        t.peek32 (s.reg 15 - 4) = s.pr ∧
        (∀ j : Nat, m.toNat ≤ j → j < 15 → t.peek32 (s.reg 15 - BitVec.ofNat 32 (4 * (16 - j))) = s.reg (BitVec.ofNat
          4 j)) ∧
        SameMemoryOutside s t (s.reg 15 - BitVec.ofNat 32 (4 * (16 - m.toNat))) (4 * (16 - m.toNat)) ∧
        SameRegs s t [15] ∧ SameSpecials s t [] ∧ SameFregs s t [] ∧ SameStatus s t 0 ∧ SameBanks s t ∧ SamePlatform
          s t ∧ t.pc = (s.after 2).pc ∧ t.slot = .none ∧ t.held = false ∧ t.power = s.power)) ∧
  (∀ (n : GReg) (s : State), encode (.movmuPop n) = [0x4#4 ++ n ++ 0xF#4 ++ 0x4#4] ∧
    (s.held = false → s.reg 15 &&& 3 = 0 → s.cfg.dataForbidden = [] →
      ∃ t, exec (.movmuPop n) s = .next t ∧ t.reg 15 = s.reg 15 + BitVec.ofNat 32 (4 * (16 - n.toNat)) ∧
        (∀ j : Nat, n.toNat ≤ j → j < 15 →
          t.reg (BitVec.ofNat 4 j) = s.peek32 (s.reg 15 + BitVec.ofNat 32 (4 * (j - n.toNat)))) ∧
        t.pr = s.peek32 (s.reg 15 + BitVec.ofNat 32 (4 * (15 - n.toNat))) ∧
        (∀ j : Nat, j < n.toNat → j < 15 → t.reg (BitVec.ofNat 4 j) = s.reg (BitVec.ofNat 4 j)) ∧
        SameSpecials s t [.pr] ∧ SameMemory s t ∧ SameFregs s t [] ∧ SameStatus s t 0 ∧ SameBanks s t ∧ SamePlatform
          s t ∧ t.pc = (s.after 2).pc ∧ t.slot = .none ∧ t.held = false ∧ t.power = s.power))

/-- ADD, ADDC, ADDV, NEG, NEGC, SUB, SUBC, SUBV, DT: code, result and T. Basis: R301, R302, R303, R304, R338, R339,
  R340, R341, R342, R327. -/
def Obligations.add_subtract_negate : Prop :=
  (∀ (m n : GReg) (s : State), encode (.add m n) = [0x3#4 ++ n ++ m ++ 0xC#4] ∧
    (s.held = false →
      exec (.add m n) s = .next ((s.setReg n (s.reg n + s.reg m)).after 2))) ∧
  (∀ (n : GReg) (i : BitVec 8) (s : State), encode (.addImm n i) = [0x7#4 ++ n ++ i] ∧
    (s.held = false →
      exec (.addImm n i) s = .next ((s.setReg n (s.reg n + i.signExtend 32)).after 2))) ∧
  (∀ (m n : GReg) (s : State), encode (.addc m n) = [0x3#4 ++ n ++ m ++ 0xE#4] ∧
    (s.held = false →
      ∀ sum : Nat, sum = (s.reg n).toNat + (s.reg m).toNat + s.t.toNat →
      exec (.addc m n) s = .next (((s.setT (decide (2 ^ 32 ≤ sum))).setReg n (BitVec.ofNat 32 sum)).after 2))) ∧
  (∀ (m n : GReg) (s : State), encode (.addv m n) = [0x3#4 ++ n ++ m ++ 0xF#4] ∧
    (s.held = false →
      ∀ r : Word, r = s.reg n + s.reg m →
      exec (.addv m n) s = .next (((s.setT ((s.reg n).msb == (s.reg m).msb && r.msb != (s.reg n).msb)).setReg n
        r).after 2))) ∧
  (∀ (m n : GReg) (s : State), encode (.neg m n) = [0x6#4 ++ n ++ m ++ 0xB#4] ∧
    (s.held = false →
      exec (.neg m n) s = .next ((s.setReg n (0 - s.reg m)).after 2))) ∧
  (∀ (m n : GReg) (s : State), encode (.negc m n) = [0x6#4 ++ n ++ m ++ 0xA#4] ∧
    (s.held = false →
      exec (.negc m n) s = .next (((s.setT (s.reg m != 0 || s.t)).setReg n (0 - s.reg m - BitVec.ofNat 32
        s.t.toNat)).after 2))) ∧
  (∀ (m n : GReg) (s : State), encode (.sub m n) = [0x3#4 ++ n ++ m ++ 0x8#4] ∧
    (s.held = false →
      exec (.sub m n) s = .next ((s.setReg n (s.reg n - s.reg m)).after 2))) ∧
  (∀ (m n : GReg) (s : State), encode (.subc m n) = [0x3#4 ++ n ++ m ++ 0xA#4] ∧
    (s.held = false →
      exec (.subc m n) s = .next (((s.setT (decide ((s.reg n).toNat < (s.reg m).toNat + s.t.toNat))).setReg n (s.reg
        n - s.reg m - BitVec.ofNat 32 s.t.toNat)).after 2))) ∧
  (∀ (m n : GReg) (s : State), encode (.subv m n) = [0x3#4 ++ n ++ m ++ 0xB#4] ∧
    (s.held = false →
      ∀ r : Word, r = s.reg n - s.reg m →
      exec (.subv m n) s = .next (((s.setT ((s.reg n).msb != (s.reg m).msb && r.msb != (s.reg n).msb)).setReg n
        r).after 2))) ∧
  (∀ (n : GReg) (s : State), encode (.dt n) = [0x4#4 ++ n ++ 0x1#4 ++ 0x0#4] ∧
    (s.held = false →
      exec (.dt n) s = .next (((s.setT (s.reg n - 1 == 0)).setReg n (s.reg n - 1)).after 2)))

/-- CMP/EQ, CMP/HS, CMP/GE, CMP/HI, CMP/GT, CMP/PL, CMP/PZ, CMP/STR: code and T. Basis: R305, R306, R307, R308, R309,
  R310, R311, R312, R313. -/
def Obligations.comparisons : Prop :=
  (∀ (i : BitVec 8) (s : State), encode (.cmpEqImm i) = [0x8#4 ++ 0x8#4 ++ i] ∧
    (s.held = false →
      ∀ b : Bool, (b = true ↔ s.reg 0 = i.signExtend 32) →
      exec (.cmpEqImm i) s = .next ((s.setT b).after 2))) ∧
  (∀ (m n : GReg) (s : State), encode (.cmpEq m n) = [0x3#4 ++ n ++ m ++ 0x0#4] ∧
    (s.held = false →
      ∀ b : Bool, (b = true ↔ s.reg n = s.reg m) →
      exec (.cmpEq m n) s = .next ((s.setT b).after 2))) ∧
  (∀ (m n : GReg) (s : State), encode (.cmpHs m n) = [0x3#4 ++ n ++ m ++ 0x2#4] ∧
    (s.held = false →
      ∀ b : Bool, (b = true ↔ (s.reg m).toNat ≤ (s.reg n).toNat) →
      exec (.cmpHs m n) s = .next ((s.setT b).after 2))) ∧
  (∀ (m n : GReg) (s : State), encode (.cmpGe m n) = [0x3#4 ++ n ++ m ++ 0x3#4] ∧
    (s.held = false →
      ∀ b : Bool, (b = true ↔ (s.reg m).toInt ≤ (s.reg n).toInt) →
      exec (.cmpGe m n) s = .next ((s.setT b).after 2))) ∧
  (∀ (m n : GReg) (s : State), encode (.cmpHi m n) = [0x3#4 ++ n ++ m ++ 0x6#4] ∧
    (s.held = false →
      ∀ b : Bool, (b = true ↔ (s.reg m).toNat < (s.reg n).toNat) →
      exec (.cmpHi m n) s = .next ((s.setT b).after 2))) ∧
  (∀ (m n : GReg) (s : State), encode (.cmpGt m n) = [0x3#4 ++ n ++ m ++ 0x7#4] ∧
    (s.held = false →
      ∀ b : Bool, (b = true ↔ (s.reg m).toInt < (s.reg n).toInt) →
      exec (.cmpGt m n) s = .next ((s.setT b).after 2))) ∧
  (∀ (n : GReg) (s : State), encode (.cmpPl n) = [0x4#4 ++ n ++ 0x1#4 ++ 0x5#4] ∧
    (s.held = false →
      ∀ b : Bool, (b = true ↔ 0 < (s.reg n).toInt) →
      exec (.cmpPl n) s = .next ((s.setT b).after 2))) ∧
  (∀ (n : GReg) (s : State), encode (.cmpPz n) = [0x4#4 ++ n ++ 0x1#4 ++ 0x1#4] ∧
    (s.held = false →
      ∀ b : Bool, (b = true ↔ 0 ≤ (s.reg n).toInt) →
      exec (.cmpPz n) s = .next ((s.setT b).after 2))) ∧
  (∀ (m n : GReg) (s : State), encode (.cmpStr m n) = [0x2#4 ++ n ++ m ++ 0xC#4] ∧
    (s.held = false →
      ∀ b : Bool, (b = true ↔ ∃ k : Nat, k < 4 ∧ (s.reg n).extractLsb' (8 * k) 8 = (s.reg m).extractLsb' (8 * k) 8) →
      exec (.cmpStr m n) s = .next ((s.setT b).after 2)))

/-- EXTS, EXTU, CLIPS, CLIPU: code, result and CS. Basis: R328, R329, R332, R333, R314, R315, R316, R317. -/
def Obligations.extend_and_clip : Prop :=
  (∀ (m n : GReg) (s : State), encode (.extsB m n) = [0x6#4 ++ n ++ m ++ 0xE#4] ∧
    (s.held = false →
      exec (.extsB m n) s = .next ((s.setReg n (((s.reg m).setWidth 8).signExtend 32)).after 2))) ∧
  (∀ (m n : GReg) (s : State), encode (.extsW m n) = [0x6#4 ++ n ++ m ++ 0xF#4] ∧
    (s.held = false →
      exec (.extsW m n) s = .next ((s.setReg n (((s.reg m).setWidth 16).signExtend 32)).after 2))) ∧
  (∀ (m n : GReg) (s : State), encode (.extuB m n) = [0x6#4 ++ n ++ m ++ 0xC#4] ∧
    (s.held = false →
      exec (.extuB m n) s = .next ((s.setReg n (((s.reg m).setWidth 8).setWidth 32)).after 2))) ∧
  (∀ (m n : GReg) (s : State), encode (.extuW m n) = [0x6#4 ++ n ++ m ++ 0xD#4] ∧
    (s.held = false →
      exec (.extuW m n) s = .next ((s.setReg n (((s.reg m).setWidth 16).setWidth 32)).after 2))) ∧
  (∀ (n : GReg) (s : State), encode (.clipsB n) = [0x4#4 ++ n ++ 0x9#4 ++ 0x1#4] ∧
    (s.held = false →
      exec (.clipsB n) s = .next ((if (127 : Int) < (s.reg n).toInt then (s.setReg n 0x0000007F).setCs true
        else if (s.reg n).toInt < -128 then (s.setReg n 0xFFFFFF80).setCs true else s).after 2))) ∧
  (∀ (n : GReg) (s : State), encode (.clipsW n) = [0x4#4 ++ n ++ 0x9#4 ++ 0x5#4] ∧
    (s.held = false →
      exec (.clipsW n) s = .next ((if (32767 : Int) < (s.reg n).toInt then (s.setReg n 0x00007FFF).setCs true
        else if (s.reg n).toInt < -32768 then (s.setReg n 0xFFFF8000).setCs true else s).after 2))) ∧
  (∀ (n : GReg) (s : State), encode (.clipuB n) = [0x4#4 ++ n ++ 0x8#4 ++ 0x1#4] ∧
    (s.held = false →
      exec (.clipuB n) s = .next ((if 0x000000FF < (s.reg n).toNat then (s.setReg n 0x000000FF).setCs true else
        s).after 2))) ∧
  (∀ (n : GReg) (s : State), encode (.clipuW n) = [0x4#4 ++ n ++ 0x8#4 ++ 0x5#4] ∧
    (s.held = false →
      exec (.clipuW n) s = .next ((if 0x0000FFFF < (s.reg n).toNat then (s.setReg n 0x0000FFFF).setCs true else
        s).after 2)))

/-- DIV0S, DIV0U, DIV1, DIVS, DIVU: code, result, flags and exceptions. That Rn is unchanged when DIVS or DIVU traps
  is the spec's decision D19 (log 23). Basis: R318, R319, R320, R322, R323. -/
def Obligations.division : Prop :=
  (∀ (m n : GReg) (s : State), encode (.div0s m n) = [0x2#4 ++ n ++ m ++ 0x7#4] ∧
    (s.held = false →
      exec (.div0s m n) s = .next ((((s.setQ (s.reg n).msb).setM (s.reg m).msb).setT ((s.reg m).msb ^^ (s.reg
        n).msb)).after 2))) ∧
  (∀ (s : State), encode .div0u = [0x0#4 ++ 0x0#4 ++ 0x1#4 ++ 0x9#4] ∧
    (s.held = false →
      exec .div0u s = .next ((((s.setM false).setQ false).setT false).after 2))) ∧
  (∀ (m n : GReg) (s : State), encode (.div1 m n) = [0x3#4 ++ n ++ m ++ 0x4#4] ∧
    (s.held = false →
      ∀ (a d r : Word) (c q' : Bool), a = (s.reg n <<< 1) ||| (if s.t then 1 else 0) → d = (if m = n then a else
        s.reg m) →
      r = (if s.q = s.m then a - d else a + d) →
      c = (if s.q = s.m then decide (a.toNat < r.toNat) else decide (r.toNat < a.toNat)) →
      q' = (if s.m then (if (s.reg n).msb then c else !c) else (if (s.reg n).msb then !c else c)) →
      exec (.div1 m n) s = .next ((((s.setReg n r).setQ q').setT (q' == s.m)).after 2))) ∧
  (∀ (n : GReg) (s : State), encode (.divs n) = [0x4#4 ++ n ++ 0x9#4 ++ 0x4#4] ∧
    (s.held = false → s.slot = .none →
      (s.reg 0 = 0 → exec (.divs n) s = .next (s.raise .divideByZero s.pc)) ∧
      (s.reg n = 0x80000000 → s.reg 0 = 0xFFFFFFFF → exec (.divs n) s = .next (s.raise .divideOverflow s.pc)) ∧
      (s.reg 0 ≠ 0 → ¬(s.reg n = 0x80000000 ∧ s.reg 0 = 0xFFFFFFFF) →
        ∃ q : Word, q.toInt = (s.reg n).toInt.tdiv (s.reg 0).toInt ∧ exec (.divs n) s = .next ((s.setReg n q).after
          2)))) ∧
  (∀ (n : GReg) (s : State), encode (.divu n) = [0x4#4 ++ n ++ 0x8#4 ++ 0x4#4] ∧
    (s.held = false → s.slot = .none →
      (s.reg 0 = 0 → exec (.divu n) s = .next (s.raise .divideByZero s.pc)) ∧
      (s.reg 0 ≠ 0 →
        ∃ q : Word, q.toNat = (s.reg n).toNat / (s.reg 0).toNat ∧ exec (.divu n) s = .next ((s.setReg n q).after 2))))

/-- DMULS.L, DMULU.L, MUL.L, MULR, MULS.W, MULU.W, MAC.L, MAC.W: code and result. That MACH bits 31 to 16 are sign
  copies after MAC.L with S = 1 is the spec's decision D18 (log 22). Basis: R325, R326, R330, R331, R334, R335, R336,
    R337. -/
def Obligations.multiplication : Prop :=
  (∀ (m n : GReg) (s : State), encode (.dmulsL m n) = [0x3#4 ++ n ++ m ++ 0xD#4] ∧
    (s.held = false →
      ∀ p : Quad, p.toInt = (s.reg n).toInt * (s.reg m).toInt →
      exec (.dmulsL m n) s = .next ((s.setMac p).after 2))) ∧
  (∀ (m n : GReg) (s : State), encode (.dmuluL m n) = [0x3#4 ++ n ++ m ++ 0x5#4] ∧
    (s.held = false →
      ∀ p : Quad, p.toNat = (s.reg n).toNat * (s.reg m).toNat →
      exec (.dmuluL m n) s = .next ((s.setMac p).after 2))) ∧
  (∀ (m n : GReg) (s : State), encode (.mulL m n) = [0x0#4 ++ n ++ m ++ 0x7#4] ∧
    (s.held = false →
      exec (.mulL m n) s = .next ((s.setMacl (s.reg n * s.reg m)).after 2))) ∧
  (∀ (n : GReg) (s : State), encode (.mulr n) = [0x4#4 ++ n ++ 0x8#4 ++ 0x0#4] ∧
    (s.held = false →
      exec (.mulr n) s = .next ((s.setReg n (s.reg 0 * s.reg n)).after 2))) ∧
  (∀ (m n : GReg) (s : State), encode (.mulsW m n) = [0x2#4 ++ n ++ m ++ 0xF#4] ∧
    (s.held = false →
      ∀ p : Word, p.toInt = ((s.reg n).setWidth 16).toInt * ((s.reg m).setWidth 16).toInt →
      exec (.mulsW m n) s = .next ((s.setMacl p).after 2))) ∧
  (∀ (m n : GReg) (s : State), encode (.muluW m n) = [0x2#4 ++ n ++ m ++ 0xE#4] ∧
    (s.held = false →
      ∀ p : Word, p.toNat = ((s.reg n).setWidth 16).toNat * ((s.reg m).setWidth 16).toNat →
      exec (.muluW m n) s = .next ((s.setMacl p).after 2))) ∧
  (∀ (m n : GReg) (s : State), encode (.macL m n) = [0x0#4 ++ n ++ m ++ 0xF#4] ∧
    (∀ (an am : Word) (p sum : Int), an = s.reg n → am = (if m = n then s.reg n + 4 else s.reg m) →
      p = (s.peek32 an).toInt * (s.peek32 am).toInt →
      s.held = false → s.canAccess 4 an = true → s.canAccess 4 am = true →
      (s.sBit = false → exec (.macL m n) s = .next ((((s.setReg n (an + 4)).setReg m (am + 4)).setMac (s.mac +
        BitVec.ofInt 64 p)).after 2)) ∧
      (s.sBit = true → sum = (s.mac.extractLsb' 0 48).toInt + p →
        exec (.macL m n) s = .next ((((s.setReg n (an + 4)).setReg m (am + 4)).setMac (BitVec.ofInt 64
          (if 0x00007FFFFFFFFFFF < sum then 0x00007FFFFFFFFFFF
            else if sum < -0x0000800000000000 then -0x0000800000000000 else sum))).after 2)))) ∧
  (∀ (m n : GReg) (s : State), encode (.macW m n) = [0x4#4 ++ n ++ m ++ 0xF#4] ∧
    (∀ (an am : Word) (p sum : Int), an = s.reg n → am = (if m = n then s.reg n + 2 else s.reg m) →
      p = (s.peek16 an).toInt * (s.peek16 am).toInt →
      s.held = false → s.canAccess 2 an = true → s.canAccess 2 am = true →
      (s.sBit = false → exec (.macW m n) s = .next ((((s.setReg n (an + 2)).setReg m (am + 2)).setMac (s.mac +
        BitVec.ofInt 64 p)).after 2)) ∧
      (s.sBit = true → sum = s.macl.toInt + p →
        exec (.macW m n) s = .next ((((s.setReg n (an + 2)).setReg m (am + 2)).setMac (
          if 0x7FFFFFFF < sum then 0x00000001#32 ++ 0x7FFFFFFF#32
            else if sum < -0x80000000 then 0x00000001#32 ++ 0x80000000#32
            else s.mach ++ BitVec.ofInt 32 sum)).after 2))))

/-- AND, NOT, OR, TST, XOR on registers and immediates: code, result and T. Basis: R362, R363, R365, R366, R367,
  R371, R372, R374, R375. -/
def Obligations.logic : Prop :=
  (∀ (m n : GReg) (s : State), encode (.andReg m n) = [0x2#4 ++ n ++ m ++ 0x9#4] ∧
    (s.held = false →
      exec (.andReg m n) s = .next ((s.setReg n (s.reg n &&& s.reg m)).after 2))) ∧
  (∀ (i : BitVec 8) (s : State), encode (.andImm i) = [0xC#4 ++ 0x9#4 ++ i] ∧
    (s.held = false →
      exec (.andImm i) s = .next ((s.setReg 0 (s.reg 0 &&& i.setWidth 32)).after 2))) ∧
  (∀ (m n : GReg) (s : State), encode (.notReg m n) = [0x6#4 ++ n ++ m ++ 0x7#4] ∧
    (s.held = false →
      exec (.notReg m n) s = .next ((s.setReg n (~~~s.reg m)).after 2))) ∧
  (∀ (m n : GReg) (s : State), encode (.orReg m n) = [0x2#4 ++ n ++ m ++ 0xB#4] ∧
    (s.held = false →
      exec (.orReg m n) s = .next ((s.setReg n (s.reg n ||| s.reg m)).after 2))) ∧
  (∀ (i : BitVec 8) (s : State), encode (.orImm i) = [0xC#4 ++ 0xB#4 ++ i] ∧
    (s.held = false →
      exec (.orImm i) s = .next ((s.setReg 0 (s.reg 0 ||| i.setWidth 32)).after 2))) ∧
  (∀ (m n : GReg) (s : State), encode (.tstReg m n) = [0x2#4 ++ n ++ m ++ 0x8#4] ∧
    (s.held = false →
      exec (.tstReg m n) s = .next ((s.setT (s.reg n &&& s.reg m == 0)).after 2))) ∧
  (∀ (i : BitVec 8) (s : State), encode (.tstImm i) = [0xC#4 ++ 0x8#4 ++ i] ∧
    (s.held = false →
      exec (.tstImm i) s = .next ((s.setT (s.reg 0 &&& i.setWidth 32 == 0)).after 2))) ∧
  (∀ (m n : GReg) (s : State), encode (.xorReg m n) = [0x2#4 ++ n ++ m ++ 0xA#4] ∧
    (s.held = false →
      exec (.xorReg m n) s = .next ((s.setReg n (s.reg n ^^^ s.reg m)).after 2))) ∧
  (∀ (i : BitVec 8) (s : State), encode (.xorImm i) = [0xC#4 ++ 0xA#4 ++ i] ∧
    (s.held = false →
      exec (.xorImm i) s = .next ((s.setReg 0 (s.reg 0 ^^^ i.setWidth 32)).after 2)))

/-- ROTL, ROTR, ROTCL, ROTCR, SHAL, SHAR, SHLL, SHLR: code, result and T. Basis: R391, R392, R393, R394, R395, R396,
  R397, R398. -/
def Obligations.one_bit_shifts : Prop :=
  (∀ (n : GReg) (s : State), encode (.rotl n) = [0x4#4 ++ n ++ 0x0#4 ++ 0x4#4] ∧
    (s.held = false →
      exec (.rotl n) s = .next (((s.setT (s.reg n).msb).setReg n ((s.reg n).extractLsb' 0 31 ++ (s.reg n).extractLsb'
        31 1)).after 2))) ∧
  (∀ (n : GReg) (s : State), encode (.rotr n) = [0x4#4 ++ n ++ 0x0#4 ++ 0x5#4] ∧
    (s.held = false →
      exec (.rotr n) s = .next (((s.setT ((s.reg n).getLsbD 0)).setReg n ((s.reg n).extractLsb' 0 1 ++ (s.reg
        n).extractLsb' 1 31)).after 2))) ∧
  (∀ (n : GReg) (s : State), encode (.rotcl n) = [0x4#4 ++ n ++ 0x2#4 ++ 0x4#4] ∧
    (s.held = false →
      exec (.rotcl n) s = .next (((s.setT (s.reg n).msb).setReg n ((s.reg n).extractLsb' 0 31 ++ BitVec.ofBool
        s.t)).after 2))) ∧
  (∀ (n : GReg) (s : State), encode (.rotcr n) = [0x4#4 ++ n ++ 0x2#4 ++ 0x5#4] ∧
    (s.held = false →
      exec (.rotcr n) s = .next (((s.setT ((s.reg n).getLsbD 0)).setReg n (BitVec.ofBool s.t ++ (s.reg n).extractLsb'
        1 31)).after 2))) ∧
  (∀ (n : GReg) (s : State), encode (.shal n) = [0x4#4 ++ n ++ 0x2#4 ++ 0x0#4] ∧
    (s.held = false →
      exec (.shal n) s = .next (((s.setT (s.reg n).msb).setReg n ((s.reg n).extractLsb' 0 31 ++ 0#1)).after 2))) ∧
  (∀ (n : GReg) (s : State), encode (.shar n) = [0x4#4 ++ n ++ 0x2#4 ++ 0x1#4] ∧
    (s.held = false →
      exec (.shar n) s = .next (((s.setT ((s.reg n).getLsbD 0)).setReg n ((s.reg n).extractLsb' 31 1 ++ (s.reg
        n).extractLsb' 1 31)).after 2))) ∧
  (∀ (n : GReg) (s : State), encode (.shll n) = [0x4#4 ++ n ++ 0x0#4 ++ 0x0#4] ∧
    (s.held = false →
      exec (.shll n) s = .next (((s.setT (s.reg n).msb).setReg n ((s.reg n).extractLsb' 0 31 ++ 0#1)).after 2))) ∧
  (∀ (n : GReg) (s : State), encode (.shlr n) = [0x4#4 ++ n ++ 0x0#4 ++ 0x1#4] ∧
    (s.held = false →
      exec (.shlr n) s = .next (((s.setT ((s.reg n).getLsbD 0)).setReg n (0#1 ++ (s.reg n).extractLsb' 1 31)).after
        2)))

/-- SHLL2/8/16, SHLR2/8/16, SHAD, SHLD: code and result, T kept. Basis: R399, R400, R401, R402, R403, R404, R405,
  R406. -/
def Obligations.longer_shifts : Prop :=
  (∀ (n : GReg) (s : State), encode (.shll2 n) = [0x4#4 ++ n ++ 0x0#4 ++ 0x8#4] ∧
    (s.held = false →
      exec (.shll2 n) s = .next ((s.setReg n (s.reg n <<< 2)).after 2))) ∧
  (∀ (n : GReg) (s : State), encode (.shll8 n) = [0x4#4 ++ n ++ 0x1#4 ++ 0x8#4] ∧
    (s.held = false →
      exec (.shll8 n) s = .next ((s.setReg n (s.reg n <<< 8)).after 2))) ∧
  (∀ (n : GReg) (s : State), encode (.shll16 n) = [0x4#4 ++ n ++ 0x2#4 ++ 0x8#4] ∧
    (s.held = false →
      exec (.shll16 n) s = .next ((s.setReg n (s.reg n <<< 16)).after 2))) ∧
  (∀ (n : GReg) (s : State), encode (.shlr2 n) = [0x4#4 ++ n ++ 0x0#4 ++ 0x9#4] ∧
    (s.held = false →
      exec (.shlr2 n) s = .next ((s.setReg n (s.reg n >>> 2)).after 2))) ∧
  (∀ (n : GReg) (s : State), encode (.shlr8 n) = [0x4#4 ++ n ++ 0x1#4 ++ 0x9#4] ∧
    (s.held = false →
      exec (.shlr8 n) s = .next ((s.setReg n (s.reg n >>> 8)).after 2))) ∧
  (∀ (n : GReg) (s : State), encode (.shlr16 n) = [0x4#4 ++ n ++ 0x2#4 ++ 0x9#4] ∧
    (s.held = false →
      exec (.shlr16 n) s = .next ((s.setReg n (s.reg n >>> 16)).after 2))) ∧
  (∀ (m n : GReg) (s : State), encode (.shad m n) = [0x4#4 ++ n ++ m ++ 0xC#4] ∧
    (s.held = false →
      ∀ k : Nat, k = ((s.reg m).extractLsb' 0 5).toNat →
      exec (.shad m n) s = .next ((s.setReg n (if (s.reg m).msb = false then s.reg n <<< k else if k = 0 then (if
        (s.reg n).msb then 0xFFFFFFFF else 0) else (s.reg n).sshiftRight (32 - k))).after 2))) ∧
  (∀ (m n : GReg) (s : State), encode (.shld m n) = [0x4#4 ++ n ++ m ++ 0xD#4] ∧
    (s.held = false →
      ∀ k : Nat, k = ((s.reg m).extractLsb' 0 5).toNat →
      exec (.shld m n) s = .next ((s.setReg n (if (s.reg m).msb = false then s.reg n <<< k else if k = 0 then 0 else
        s.reg n >>> (32 - k))).after 2)))

/-- BF, BF/S, BT, BT/S, BRA, BRAF, JMP: code, target, delay slot. That an untaken BF/S or BT/S leaves a slot that the
  slot-illegal check sees is the spec's decision D15, the slot as a step of its own the model's form (log 10). Basis:
    R425, R426, R427, R428, R429, R430, R431. -/
def Obligations.branches_without_link : Prop :=
  (∀ (d : BitVec 8) (s : State), encode (.bf d) = [0x8#4 ++ 0xB#4 ++ d] ∧
    (s.held = false → s.slot = .none →
      exec (.bf d) s = .next (if s.t then { s with pc := s.pc + 2 }
        else { s with pc := s.pc + 4 + d.signExtend 32 * 2 }))) ∧
  (∀ (d : BitVec 8) (s : State), encode (.bfS d) = [0x8#4 ++ 0xF#4 ++ d] ∧
    (s.held = false → s.slot = .none →
      exec (.bfS d) s = .next (if s.t then { s with pc := s.pc + 2, slot := .untaken }
        else { s with pc := s.pc + 2, slot := .taken (s.pc + 4 + d.signExtend 32 * 2) }))) ∧
  (∀ (d : BitVec 8) (s : State), encode (.bt d) = [0x8#4 ++ 0x9#4 ++ d] ∧
    (s.held = false → s.slot = .none →
      exec (.bt d) s = .next (if s.t then { s with pc := s.pc + 4 + d.signExtend 32 * 2 }
        else { s with pc := s.pc + 2 }))) ∧
  (∀ (d : BitVec 8) (s : State), encode (.btS d) = [0x8#4 ++ 0xD#4 ++ d] ∧
    (s.held = false → s.slot = .none →
      exec (.btS d) s = .next (if s.t then { s with pc := s.pc + 2, slot := .taken (s.pc + 4 + d.signExtend 32 * 2) }
        else { s with pc := s.pc + 2, slot := .untaken }))) ∧
  (∀ (d : BitVec 12) (s : State), encode (.bra d) = [0xA#4 ++ d] ∧
    (s.held = false → s.slot = .none →
      exec (.bra d) s = .next ({ s with pc := s.pc + 2, slot := .taken (s.pc + 4 + d.signExtend 32 * 2) }))) ∧
  (∀ (m : GReg) (s : State), encode (.braf m) = [0x0#4 ++ m ++ 0x2#4 ++ 0x3#4] ∧
    (s.held = false → s.slot = .none →
      exec (.braf m) s = .next ({ s with pc := s.pc + 2, slot := .taken (s.pc + 4 + s.reg m) }))) ∧
  (∀ (m : GReg) (s : State), encode (.jmp m) = [0x4#4 ++ m ++ 0x2#4 ++ 0xB#4] ∧
    (s.held = false → s.slot = .none →
      exec (.jmp m) s = .next ({ s with pc := s.pc + 2, slot := .taken (s.reg m) })))

/-- BSR, BSRF, JSR, RTS, JSR/N, RTS/N, RTV/N: code, PR, target. Basis: R432, R433, R434, R435, R436, R437, R438,
  R439. -/
def Obligations.calls_and_returns : Prop :=
  (∀ (d : BitVec 12) (s : State), encode (.bsr d) = [0xB#4 ++ d] ∧
    (s.held = false → s.slot = .none →
      exec (.bsr d) s = .next ({ s with pr := s.pc + 4, pc := s.pc + 2, slot := .taken (s.pc + 4 + d.signExtend 32 *
        2) }))) ∧
  (∀ (m : GReg) (s : State), encode (.bsrf m) = [0x0#4 ++ m ++ 0x0#4 ++ 0x3#4] ∧
    (s.held = false → s.slot = .none →
      exec (.bsrf m) s = .next ({ s with pr := s.pc + 4, pc := s.pc + 2, slot := .taken (s.pc + 4 + s.reg m) }))) ∧
  (∀ (m : GReg) (s : State), encode (.jsr m) = [0x4#4 ++ m ++ 0x0#4 ++ 0xB#4] ∧
    (s.held = false → s.slot = .none →
      exec (.jsr m) s = .next ({ s with pr := s.pc + 4, pc := s.pc + 2, slot := .taken (s.reg m) }))) ∧
  (∀ (s : State), encode .rts = [0x0#4 ++ 0x0#4 ++ 0x0#4 ++ 0xB#4] ∧
    (s.held = false → s.slot = .none →
      exec .rts s = .next ({ s with pc := s.pc + 2, slot := .taken (s.pr) }))) ∧
  (∀ (d : BitVec 8) (s : State), encode (.jsrNTbr d) = [0x8#4 ++ 0x3#4 ++ d] ∧
    (s.held = false → s.slot = .none → s.canAccess 4 (s.tbr + d.setWidth 32 * 4) = true →
      exec (.jsrNTbr d) s = .next ({ s with pr := s.pc + 2, pc := s.peek32 (s.tbr + d.setWidth 32 * 4) }))) ∧
  (∀ (m : GReg) (s : State), encode (.jsrN m) = [0x4#4 ++ m ++ 0x4#4 ++ 0xB#4] ∧
    (s.held = false → s.slot = .none →
      exec (.jsrN m) s = .next ({ s with pr := s.pc + 2, pc := s.reg m }))) ∧
  (∀ (s : State), encode .rtsN = [0x0#4 ++ 0x0#4 ++ 0x6#4 ++ 0xB#4] ∧
    (s.held = false → s.slot = .none →
      exec .rtsN s = .next ({ s with pc := s.pr }))) ∧
  (∀ (m : GReg) (s : State), encode (.rtvN m) = [0x0#4 ++ m ++ 0x7#4 ++ 0xB#4] ∧
    (s.held = false → s.slot = .none →
      exec (.rtvN m) s = .next ({ s.setReg 0 (s.reg m) with pc := s.pr })))

/-- BAND.B, BANDNOT.B, BOR.B, BORNOT.B, BXOR.B, BLD.B, BLD, BLDNOT.B, TST.B: code and T. Basis: R603, R604, R605,
  R606, R607, R608, R609, R610, R373. -/
def Obligations.bit_tests : Prop :=
  (∀ (n : GReg) (i : BitVec 3) (d : BitVec 12) (s : State), encode (.bandB n i d) = [0x3#4 ++ n ++ (0#1 ++ i) ++
    0x9#4, 0x4#4 ++ d] ∧
    (s.held = false → s.slot = .none →
      ∀ ea : Word, ea = s.reg n + d.setWidth 32 → s.canAccess 1 ea = true →
      exec (.bandB n i d) s = .next ((s.setT ((s.peek ea).getLsbD i.toNat && s.t)).after 4))) ∧
  (∀ (n : GReg) (i : BitVec 3) (d : BitVec 12) (s : State), encode (.bandnotB n i d) = [0x3#4 ++ n ++ (0#1 ++ i) ++
    0x9#4, 0xC#4 ++ d] ∧
    (s.held = false → s.slot = .none →
      ∀ ea : Word, ea = s.reg n + d.setWidth 32 → s.canAccess 1 ea = true →
      exec (.bandnotB n i d) s = .next ((s.setT (!(s.peek ea).getLsbD i.toNat && s.t)).after 4))) ∧
  (∀ (n : GReg) (i : BitVec 3) (d : BitVec 12) (s : State), encode (.borB n i d) = [0x3#4 ++ n ++ (0#1 ++ i) ++
    0x9#4, 0x5#4 ++ d] ∧
    (s.held = false → s.slot = .none →
      ∀ ea : Word, ea = s.reg n + d.setWidth 32 → s.canAccess 1 ea = true →
      exec (.borB n i d) s = .next ((s.setT ((s.peek ea).getLsbD i.toNat || s.t)).after 4))) ∧
  (∀ (n : GReg) (i : BitVec 3) (d : BitVec 12) (s : State), encode (.bornotB n i d) = [0x3#4 ++ n ++ (0#1 ++ i) ++
    0x9#4, 0xD#4 ++ d] ∧
    (s.held = false → s.slot = .none →
      ∀ ea : Word, ea = s.reg n + d.setWidth 32 → s.canAccess 1 ea = true →
      exec (.bornotB n i d) s = .next ((s.setT (!(s.peek ea).getLsbD i.toNat || s.t)).after 4))) ∧
  (∀ (n : GReg) (i : BitVec 3) (d : BitVec 12) (s : State), encode (.bxorB n i d) = [0x3#4 ++ n ++ (0#1 ++ i) ++
    0x9#4, 0x6#4 ++ d] ∧
    (s.held = false → s.slot = .none →
      ∀ ea : Word, ea = s.reg n + d.setWidth 32 → s.canAccess 1 ea = true →
      exec (.bxorB n i d) s = .next ((s.setT ((s.peek ea).getLsbD i.toNat ^^ s.t)).after 4))) ∧
  (∀ (n : GReg) (i : BitVec 3) (d : BitVec 12) (s : State), encode (.bldB n i d) = [0x3#4 ++ n ++ (0#1 ++ i) ++
    0x9#4, 0x3#4 ++ d] ∧
    (s.held = false → s.slot = .none →
      ∀ ea : Word, ea = s.reg n + d.setWidth 32 → s.canAccess 1 ea = true →
      exec (.bldB n i d) s = .next ((s.setT ((s.peek ea).getLsbD i.toNat)).after 4))) ∧
  (∀ (n : GReg) (i : BitVec 3) (s : State), encode (.bldReg n i) = [0x8#4 ++ 0x7#4 ++ n ++ (1#1 ++ i)] ∧
    (s.held = false →
      exec (.bldReg n i) s = .next ((s.setT ((s.reg n).getLsbD i.toNat)).after 2))) ∧
  (∀ (n : GReg) (i : BitVec 3) (d : BitVec 12) (s : State), encode (.bldnotB n i d) = [0x3#4 ++ n ++ (0#1 ++ i) ++
    0x9#4, 0xB#4 ++ d] ∧
    (s.held = false → s.slot = .none →
      ∀ ea : Word, ea = s.reg n + d.setWidth 32 → s.canAccess 1 ea = true →
      exec (.bldnotB n i d) s = .next ((s.setT (!(s.peek ea).getLsbD i.toNat)).after 4))) ∧
  (∀ (i : BitVec 8) (s : State), encode (.tstBGbr i) = [0xC#4 ++ 0xC#4 ++ i] ∧
    (s.held = false →
      ∀ ea : Word, ea = s.gbr + s.reg 0 → s.canAccess 1 ea = true →
      exec (.tstBGbr i) s = .next ((s.setT (s.peek ea &&& i == 0)).after 2)))

/-- AND.B, OR.B, XOR.B, TAS.B, BCLR, BSET, BST on memory and registers: code and effect. Basis: R364, R368, R376,
  R370, R611, R613, R615, R612, R614, R616. -/
def Obligations.read_modify_write : Prop :=
  (∀ (i : BitVec 8) (s : State), encode (.andBGbr i) = [0xC#4 ++ 0xD#4 ++ i] ∧
    (s.held = false →
      ∀ ea : Word, ea = s.gbr + s.reg 0 → s.canAccess 1 ea = true →
      exec (.andBGbr i) s = .next ((s.poke ea (s.peek ea &&& i)).after 2))) ∧
  (∀ (i : BitVec 8) (s : State), encode (.orBGbr i) = [0xC#4 ++ 0xF#4 ++ i] ∧
    (s.held = false →
      ∀ ea : Word, ea = s.gbr + s.reg 0 → s.canAccess 1 ea = true →
      exec (.orBGbr i) s = .next ((s.poke ea (s.peek ea ||| i)).after 2))) ∧
  (∀ (i : BitVec 8) (s : State), encode (.xorBGbr i) = [0xC#4 ++ 0xE#4 ++ i] ∧
    (s.held = false →
      ∀ ea : Word, ea = s.gbr + s.reg 0 → s.canAccess 1 ea = true →
      exec (.xorBGbr i) s = .next ((s.poke ea (s.peek ea ^^^ i)).after 2))) ∧
  (∀ (n : GReg) (s : State), encode (.tasB n) = [0x4#4 ++ n ++ 0x1#4 ++ 0xB#4] ∧
    (s.held = false → s.canAccess 1 (s.reg n) = true →
      exec (.tasB n) s = .next (((s.setT (s.peek (s.reg n) == 0)).poke (s.reg n) (s.peek (s.reg n) ||| 0x80)).after
        2))) ∧
  (∀ (n : GReg) (i : BitVec 3) (d : BitVec 12) (s : State), encode (.bclrB n i d) = [0x3#4 ++ n ++ (0#1 ++ i) ++
    0x9#4, 0x0#4 ++ d] ∧
    (s.held = false → s.slot = .none →
      ∀ ea : Word, ea = s.reg n + d.setWidth 32 → s.canAccess 1 ea = true →
      exec (.bclrB n i d) s = .next ((s.poke ea (s.peek ea &&& ~~~(1#8 <<< i.toNat))).after 4))) ∧
  (∀ (n : GReg) (i : BitVec 3) (d : BitVec 12) (s : State), encode (.bsetB n i d) = [0x3#4 ++ n ++ (0#1 ++ i) ++
    0x9#4, 0x1#4 ++ d] ∧
    (s.held = false → s.slot = .none →
      ∀ ea : Word, ea = s.reg n + d.setWidth 32 → s.canAccess 1 ea = true →
      exec (.bsetB n i d) s = .next ((s.poke ea (s.peek ea ||| (1#8 <<< i.toNat))).after 4))) ∧
  (∀ (n : GReg) (i : BitVec 3) (d : BitVec 12) (s : State), encode (.bstB n i d) = [0x3#4 ++ n ++ (0#1 ++ i) ++
    0x9#4, 0x2#4 ++ d] ∧
    (s.held = false → s.slot = .none →
      ∀ ea : Word, ea = s.reg n + d.setWidth 32 → s.canAccess 1 ea = true →
      exec (.bstB n i d) s = .next ((s.poke ea ((s.peek ea &&& ~~~(1#8 <<< i.toNat)) ||| ((if s.t then 1#8 else 0#8)
        <<< i.toNat))).after 4))) ∧
  (∀ (n : GReg) (i : BitVec 3) (s : State), encode (.bclrReg n i) = [0x8#4 ++ 0x6#4 ++ n ++ (0#1 ++ i)] ∧
    (s.held = false →
      exec (.bclrReg n i) s = .next ((s.setReg n (s.reg n &&& ~~~(1#32 <<< i.toNat))).after 2))) ∧
  (∀ (n : GReg) (i : BitVec 3) (s : State), encode (.bsetReg n i) = [0x8#4 ++ 0x6#4 ++ n ++ (1#1 ++ i)] ∧
    (s.held = false →
      exec (.bsetReg n i) s = .next ((s.setReg n (s.reg n ||| (1#32 <<< i.toNat))).after 2))) ∧
  (∀ (n : GReg) (i : BitVec 3) (s : State), encode (.bstReg n i) = [0x8#4 ++ 0x7#4 ++ n ++ (0#1 ++ i)] ∧
    (s.held = false →
      exec (.bstReg n i) s = .next ((s.setReg n ((s.reg n &&& ~~~(1#32 <<< i.toNat)) ||| ((if s.t then 1#32 else
        0#32) <<< i.toNat))).after 2)))

/-- CLRT, SETT, CLRMAC, NOP, LDC and LDS from a register: code and effect. Basis: R451, R452, R453, R454, R455, R456,
  R457, R458, R462, R463, R464. -/
def Obligations.register_loads : Prop :=
  (∀ (s : State), encode .clrt = [0x0#4 ++ 0x0#4 ++ 0x0#4 ++ 0x8#4] ∧
    (s.held = false →
      exec .clrt s = .next ((s.setT false).after 2))) ∧
  (∀ (s : State), encode .sett = [0x0#4 ++ 0x0#4 ++ 0x1#4 ++ 0x8#4] ∧
    (s.held = false →
      exec .sett s = .next ((s.setT true).after 2))) ∧
  (∀ (s : State), encode .clrmac = [0x0#4 ++ 0x0#4 ++ 0x2#4 ++ 0x8#4] ∧
    (s.held = false →
      exec .clrmac s = .next (({ s with mach := 0, macl := 0 } : State).after 2))) ∧
  (∀ (s : State), encode .nop = [0x0#4 ++ 0x0#4 ++ 0x0#4 ++ 0x9#4] ∧
    (s.held = false →
      exec .nop s = .next (s.after 2))) ∧
  (∀ (m : GReg) (s : State), encode (.ldcSr m) = [0x4#4 ++ m ++ 0x0#4 ++ 0xE#4] ∧
    (s.held = false →
      exec (.ldcSr m) s = .next (({ s with sr := s.reg m &&& 0x000063F3 } : State).after 2))) ∧
  (∀ (m : GReg) (s : State), encode (.ldcGbr m) = [0x4#4 ++ m ++ 0x1#4 ++ 0xE#4] ∧
    (s.held = false →
      exec (.ldcGbr m) s = .next (({ s with gbr := s.reg m } : State).after 2))) ∧
  (∀ (m : GReg) (s : State), encode (.ldcVbr m) = [0x4#4 ++ m ++ 0x2#4 ++ 0xE#4] ∧
    (s.held = false →
      exec (.ldcVbr m) s = .next (({ s with vbr := s.reg m } : State).after 2))) ∧
  (∀ (m : GReg) (s : State), encode (.ldcTbr m) = [0x4#4 ++ m ++ 0x4#4 ++ 0xA#4] ∧
    (s.held = false →
      exec (.ldcTbr m) s = .next (({ s with tbr := s.reg m } : State).after 2))) ∧
  (∀ (m : GReg) (s : State), encode (.ldsMach m) = [0x4#4 ++ m ++ 0x0#4 ++ 0xA#4] ∧
    (s.held = false →
      exec (.ldsMach m) s = .next (({ s with mach := s.reg m } : State).after 2))) ∧
  (∀ (m : GReg) (s : State), encode (.ldsMacl m) = [0x4#4 ++ m ++ 0x1#4 ++ 0xA#4] ∧
    (s.held = false →
      exec (.ldsMacl m) s = .next (({ s with macl := s.reg m } : State).after 2))) ∧
  (∀ (m : GReg) (s : State), encode (.ldsPr m) = [0x4#4 ++ m ++ 0x2#4 ++ 0xA#4] ∧
    (s.held = false →
      exec (.ldsPr m) s = .next (({ s with pr := s.reg m } : State).after 2)))

/-- LDC.L, LDS.L, STC.L, STS.L: code and effect. Basis: R459, R460, R461, R465, R466, R467, R477, R478, R479, R488,
  R489, R490. -/
def Obligations.control_register_memory_forms : Prop :=
  (∀ (m : GReg) (s : State), encode (.ldcLSr m) = [0x4#4 ++ m ++ 0x0#4 ++ 0x7#4] ∧
    (s.held = false → s.canAccess 4 (s.reg m) = true →
      exec (.ldcLSr m) s = .next ((({ s with sr := s.peek32 (s.reg m) &&& 0x000063F3 } : State).setReg m (s.reg m +
        4)).after 2))) ∧
  (∀ (m : GReg) (s : State), encode (.ldcLGbr m) = [0x4#4 ++ m ++ 0x1#4 ++ 0x7#4] ∧
    (s.held = false → s.canAccess 4 (s.reg m) = true →
      exec (.ldcLGbr m) s = .next ((({ s with gbr := s.peek32 (s.reg m) } : State).setReg m (s.reg m + 4)).after 2)))
        ∧
  (∀ (m : GReg) (s : State), encode (.ldcLVbr m) = [0x4#4 ++ m ++ 0x2#4 ++ 0x7#4] ∧
    (s.held = false → s.canAccess 4 (s.reg m) = true →
      exec (.ldcLVbr m) s = .next ((({ s with vbr := s.peek32 (s.reg m) } : State).setReg m (s.reg m + 4)).after 2)))
        ∧
  (∀ (m : GReg) (s : State), encode (.ldsLMach m) = [0x4#4 ++ m ++ 0x0#4 ++ 0x6#4] ∧
    (s.held = false → s.canAccess 4 (s.reg m) = true →
      exec (.ldsLMach m) s = .next ((({ s with mach := s.peek32 (s.reg m) } : State).setReg m (s.reg m + 4)).after
        2))) ∧
  (∀ (m : GReg) (s : State), encode (.ldsLMacl m) = [0x4#4 ++ m ++ 0x1#4 ++ 0x6#4] ∧
    (s.held = false → s.canAccess 4 (s.reg m) = true →
      exec (.ldsLMacl m) s = .next ((({ s with macl := s.peek32 (s.reg m) } : State).setReg m (s.reg m + 4)).after
        2))) ∧
  (∀ (m : GReg) (s : State), encode (.ldsLPr m) = [0x4#4 ++ m ++ 0x2#4 ++ 0x6#4] ∧
    (s.held = false → s.canAccess 4 (s.reg m) = true →
      exec (.ldsLPr m) s = .next ((({ s with pr := s.peek32 (s.reg m) } : State).setReg m (s.reg m + 4)).after 2))) ∧
  (∀ (n : GReg) (s : State), encode (.stcLSr n) = [0x4#4 ++ n ++ 0x0#4 ++ 0x3#4] ∧
    (s.held = false → s.canAccess 4 (s.reg n - 4) = true →
      exec (.stcLSr n) s = .next (((s.poke32 (s.reg n - 4) s.sr).setReg n (s.reg n - 4)).after 2))) ∧
  (∀ (n : GReg) (s : State), encode (.stcLGbr n) = [0x4#4 ++ n ++ 0x1#4 ++ 0x3#4] ∧
    (s.held = false → s.canAccess 4 (s.reg n - 4) = true →
      exec (.stcLGbr n) s = .next (((s.poke32 (s.reg n - 4) s.gbr).setReg n (s.reg n - 4)).after 2))) ∧
  (∀ (n : GReg) (s : State), encode (.stcLVbr n) = [0x4#4 ++ n ++ 0x2#4 ++ 0x3#4] ∧
    (s.held = false → s.canAccess 4 (s.reg n - 4) = true →
      exec (.stcLVbr n) s = .next (((s.poke32 (s.reg n - 4) s.vbr).setReg n (s.reg n - 4)).after 2))) ∧
  (∀ (n : GReg) (s : State), encode (.stsLMach n) = [0x4#4 ++ n ++ 0x0#4 ++ 0x2#4] ∧
    (s.held = false → s.canAccess 4 (s.reg n - 4) = true →
      exec (.stsLMach n) s = .next (((s.poke32 (s.reg n - 4) s.mach).setReg n (s.reg n - 4)).after 2))) ∧
  (∀ (n : GReg) (s : State), encode (.stsLMacl n) = [0x4#4 ++ n ++ 0x1#4 ++ 0x2#4] ∧
    (s.held = false → s.canAccess 4 (s.reg n - 4) = true →
      exec (.stsLMacl n) s = .next (((s.poke32 (s.reg n - 4) s.macl).setReg n (s.reg n - 4)).after 2))) ∧
  (∀ (n : GReg) (s : State), encode (.stsLPr n) = [0x4#4 ++ n ++ 0x2#4 ++ 0x2#4] ∧
    (s.held = false → s.canAccess 4 (s.reg n - 4) = true →
      exec (.stsLPr n) s = .next (((s.poke32 (s.reg n - 4) s.pr).setReg n (s.reg n - 4)).after 2)))

/-- STC and STS into a register, SLEEP: code and effect. The one low-power state that SLEEP enters is the model's
  choice (log 31). Basis: R471, R473, R474, R475, R476, R480, R481, R482, R780. -/
def Obligations.register_stores_and_sleep : Prop :=
  (∀ (n : GReg) (s : State), encode (.stcSr n) = [0x0#4 ++ n ++ 0x0#4 ++ 0x2#4] ∧
    (s.held = false →
      exec (.stcSr n) s = .next ((s.setReg n s.sr).after 2))) ∧
  (∀ (n : GReg) (s : State), encode (.stcGbr n) = [0x0#4 ++ n ++ 0x1#4 ++ 0x2#4] ∧
    (s.held = false →
      exec (.stcGbr n) s = .next ((s.setReg n s.gbr).after 2))) ∧
  (∀ (n : GReg) (s : State), encode (.stcVbr n) = [0x0#4 ++ n ++ 0x2#4 ++ 0x2#4] ∧
    (s.held = false →
      exec (.stcVbr n) s = .next ((s.setReg n s.vbr).after 2))) ∧
  (∀ (n : GReg) (s : State), encode (.stcTbr n) = [0x0#4 ++ n ++ 0x4#4 ++ 0xA#4] ∧
    (s.held = false →
      exec (.stcTbr n) s = .next ((s.setReg n s.tbr).after 2))) ∧
  (∀ (n : GReg) (s : State), encode (.stsMach n) = [0x0#4 ++ n ++ 0x0#4 ++ 0xA#4] ∧
    (s.held = false →
      exec (.stsMach n) s = .next ((s.setReg n s.mach).after 2))) ∧
  (∀ (n : GReg) (s : State), encode (.stsMacl n) = [0x0#4 ++ n ++ 0x1#4 ++ 0xA#4] ∧
    (s.held = false →
      exec (.stsMacl n) s = .next ((s.setReg n s.macl).after 2))) ∧
  (∀ (n : GReg) (s : State), encode (.stsPr n) = [0x0#4 ++ n ++ 0x2#4 ++ 0xA#4] ∧
    (s.held = false →
      exec (.stsPr n) s = .next ((s.setReg n s.pr).after 2))) ∧
  (∀ (s : State), encode .sleep = [0x0#4 ++ 0x0#4 ++ 0x1#4 ++ 0xB#4] ∧
    (s.held = false →
      exec .sleep s = .next (({ s with power := .lowPower } : State).after 2)))

/-- TRAPA and RTE: code, stack, SR and where control goes. Basis: R470, R472. -/
def Obligations.trapa_and_rte : Prop :=
  (∀ (i : BitVec 8) (s : State), encode (.trapa i) = [0xC#4 ++ 0x3#4 ++ i] ∧
    (s.slot = .none → s.entryAllowed (.trap i) → Memory.wf s.mem → s.plain (s.reg 15 - 8) 8 →
      ∃ t, exec (.trapa i) s = .next t ∧ t.pc = s.peek32 (s.vbr + i.setWidth 32 * 4) ∧ t.reg 15 = s.reg 15 - 8 ∧
        t.peek32 (s.reg 15 - 4) = s.sr ∧ t.peek32 (s.reg 15 - 8) = s.pc + 2 ∧
        t.sr = s.sr ∧ t.slot = .none ∧ t.held = s.held ∧ SameMemoryOutside s t (s.reg 15 - 8) 8 ∧
        SameRegs s t [15] ∧ SameFregs s t [] ∧ SameSpecials s t [] ∧ SameBanks s t ∧ SamePlatform s t)) ∧
  (∀ s : State, encode .rte = [0x0#4 ++ 0x0#4 ++ 0x2#4 ++ 0xB#4] ∧
    (s.slot = .none → s.canAccess 4 (s.reg 15) = true → s.canAccess 4 (s.reg 15 + 4) = true →
      exec .rte s = .next { s.setReg 15 (s.reg 15 + 8) with
        sr := s.peek32 (s.reg 15 + 4) &&& 0x000063F3, pc := s.pc + 2, slot := .taken (s.peek32 (s.reg 15)) }))

/-- RESBANK, LDBANK, STBANK: code and effect. Which register is entry 15 to 19 of a bank is the spec's decision D6
  (log 14); that IBNR stands in the address space at a parameter address is log 15. Basis: R49, R52, R54, R55, R485,
    R486, R487. -/
def Obligations.bank_instructions : Prop :=
  (∀ s : State, encode .resbank = [0x0#4 ++ 0x0#4 ++ 0x5#4 ++ 0xB#4] ∧
    (s.held = false → s.slot = .none → s.cfg.hasBanks = true →
      (s.bo = false → s.bn = 0 → exec .resbank s = .next (s.raise .bankUnderflow s.pc)) ∧
      (∀ b : Bank, s.bo = false → s.bn ≠ 0 → s.banks[s.bn - 1]? = some b →
        ∃ t, exec .resbank s = .next t ∧ t.bn = s.bn - 1 ∧ t.banks = s.banks ∧
          (∀ (k : Nat) (h : k < 15), t.reg (BitVec.ofNat 4 k) = b[k]) ∧ t.reg 15 = s.reg 15 ∧
          t.gbr = b[15] ∧ t.mach = b[16] ∧ t.macl = b[17] ∧ t.pr = b[18] ∧
          SameSpecials s t [.gbr, .mach, .macl, .pr] ∧ SameFregs s t [] ∧ SamePlatform s t ∧ t.sr = s.sr ∧
          t.pc = s.pc + 2 ∧ t.slot = .none ∧ t.held = false ∧ t.power = s.power ∧
          t.mem = s.mem ∧ t.ibcr = s.ibcr ∧ t.ibnrBe = s.ibnrBe ∧ t.ibnrBove = s.ibnrBove ∧
          (∀ a, bankByteAt s.cfg a ≠ some .ibnrLow → t.peek a = s.peek a) ∧
          (∀ a, bankByteAt s.cfg a = some .ibnrLow → t.peek a = BitVec.ofNat 8 ((s.bn - 1) % 16))) ∧
      (s.bo = true → (∀ k : Nat, k < 19 → s.canAccess 4 (s.reg 15 + BitVec.ofNat 32 (4 * k)) = true) →
        ∃ t, exec .resbank s = .next t ∧ SameBanks s t ∧ t.reg 15 = s.reg 15 + 76 ∧
          (∀ k : Nat, k < 15 → t.reg (BitVec.ofNat 4 k) = s.peek32 (s.reg 15 + BitVec.ofNat 32 (4 * k))) ∧
          t.pr = s.peek32 (s.reg 15 + 60) ∧ t.gbr = s.peek32 (s.reg 15 + 64) ∧
          t.mach = s.peek32 (s.reg 15 + 68) ∧ t.macl = s.peek32 (s.reg 15 + 72) ∧
          SameSpecials s t [.gbr, .mach, .macl, .pr] ∧ SameFregs s t [] ∧ SamePlatform s t ∧ t.sr = s.sr ∧
          t.pc = s.pc + 2 ∧ t.slot = .none ∧ t.held = false ∧ t.power = s.power ∧ SameMemory s t))) ∧
  (∀ (m : GReg) (s : State), encode (.ldbank m) = [0x4#4 ++ m ++ 0xE#4 ++ 0x5#4] ∧
    (s.held = false → s.cfg.hasBanks = true →
      ∀ (k e : Nat) (b : Bank) (he : e < 20), s.banks[k]? = some b → k < 512 →
        s.reg m = BitVec.ofNat 32 (128 * k + 4 * e) →
        exec (.ldbank m) s = .next ((s.setReg 0 b[e]).after 2))) ∧
  (∀ (n : GReg) (s : State), encode (.stbank n) = [0x4#4 ++ n ++ 0xE#4 ++ 0x1#4] ∧
    (s.held = false → s.cfg.hasBanks = true →
      ∀ (k e : Nat) (b : Bank) (he : e < 20), s.banks[k]? = some b → k < 512 →
        s.reg n = BitVec.ofNat 32 (128 * k + 4 * e) →
        exec (.stbank n) s = .next (({ s with banks := s.banks.set k (b.set e (s.reg 0)) } : State).after 2)))

/-- FMOV between registers and from memory, single and pair: code and effect. The register field of a pair names an
  even register; that the low bit of the field plays no part is the spec's decision D16 (log 25). Basis: R562, R563,
    R566, R567, R568, R569, R572, R573, R577, R578. -/
def Obligations.fmov_registers_and_loads : Prop :=
  (∀ (m n : FReg) (s : State), encode (.fmovFR m n) = [0xF#4 ++ n ++ m ++ 0xC#4] ∧
    (s.held = false → s.fpuReady = true →
      exec (.fmovFR m n) s = .next ((s.setFreg n (s.freg m)).after 2))) ∧
  (∀ (m n : DReg) (s : State), encode (.fmovDR m n) = [0xF#4 ++ n ++ m ++ 0xC#4] ∧
    (s.held = false → s.fpuReady = true →
      exec (.fmovDR m n) s = .next (((s.setFreg (n &&& 14) (s.freg (m &&& 14))).setFreg ((n &&& 14) + 1) (s.freg ((m
        &&& 14) + 1))).after 2))) ∧
  (∀ (m : GReg) (n : FReg) (s : State), encode (.fmovSLoad m n) = [0xF#4 ++ n ++ m ++ 0x8#4] ∧
    (s.held = false → s.fpuReady = true →
      ∀ ea : Word, ea = s.reg m → s.canAccess 4 ea = true →
      exec (.fmovSLoad m n) s = .next ((s.setFreg n (s.peek32 ea)).after 2))) ∧
  (∀ (m : GReg) (n : DReg) (s : State), encode (.fmovDLoad m n) = [0xF#4 ++ n ++ m ++ 0x8#4] ∧
    (s.held = false → s.fpuReady = true →
      ∀ ea : Word, ea = s.reg m → s.canAccess 8 ea = true →
      exec (.fmovDLoad m n) s = .next (((s.setFreg (n &&& 14) (s.peek32 ea)).setFreg ((n &&& 14) + 1) (s.peek32 (ea +
        4))).after 2))) ∧
  (∀ (m : GReg) (n : FReg) (s : State), encode (.fmovSLoadPostInc m n) = [0xF#4 ++ n ++ m ++ 0x9#4] ∧
    (s.held = false → s.fpuReady = true →
      ∀ ea : Word, ea = s.reg m → s.canAccess 4 ea = true →
      exec (.fmovSLoadPostInc m n) s = .next (((s.setFreg n (s.peek32 ea)).setReg m (s.reg m + 4)).after 2))) ∧
  (∀ (m : GReg) (n : DReg) (s : State), encode (.fmovDLoadPostInc m n) = [0xF#4 ++ n ++ m ++ 0x9#4] ∧
    (s.held = false → s.fpuReady = true →
      ∀ ea : Word, ea = s.reg m → s.canAccess 8 ea = true →
      exec (.fmovDLoadPostInc m n) s = .next ((((s.setFreg (n &&& 14) (s.peek32 ea)).setFreg ((n &&& 14) + 1)
        (s.peek32 (ea + 4))).setReg m (s.reg m + 8)).after 2))) ∧
  (∀ (m : GReg) (n : FReg) (s : State), encode (.fmovSLoadIdx m n) = [0xF#4 ++ n ++ m ++ 0x6#4] ∧
    (s.held = false → s.fpuReady = true →
      ∀ ea : Word, ea = s.reg 0 + s.reg m → s.canAccess 4 ea = true →
      exec (.fmovSLoadIdx m n) s = .next ((s.setFreg n (s.peek32 ea)).after 2))) ∧
  (∀ (m : GReg) (n : DReg) (s : State), encode (.fmovDLoadIdx m n) = [0xF#4 ++ n ++ m ++ 0x6#4] ∧
    (s.held = false → s.fpuReady = true →
      ∀ ea : Word, ea = s.reg 0 + s.reg m → s.canAccess 8 ea = true →
      exec (.fmovDLoadIdx m n) s = .next (((s.setFreg (n &&& 14) (s.peek32 ea)).setFreg ((n &&& 14) + 1) (s.peek32
        (ea + 4))).after 2))) ∧
  (∀ (m : GReg) (n : FReg) (d : BitVec 12) (s : State), encode (.fmovSLoadDisp12 m n d) = [0x3#4 ++ n ++ m ++ 0x1#4,
    0x7#4 ++ d] ∧
    (s.held = false → s.fpuReady = true → s.slot = .none →
      ∀ ea : Word, ea = s.reg m + d.setWidth 32 * 4 → s.canAccess 4 ea = true →
      exec (.fmovSLoadDisp12 m n d) s = .next ((s.setFreg n (s.peek32 ea)).after 4))) ∧
  (∀ (m : GReg) (n : DReg) (d : BitVec 12) (s : State), encode (.fmovDLoadDisp12 m n d) = [0x3#4 ++ n ++ m ++ 0x1#4,
    0x7#4 ++ d] ∧
    (s.held = false → s.fpuReady = true → s.slot = .none →
      ∀ ea : Word, ea = s.reg m + d.setWidth 32 * 8 → s.canAccess 8 ea = true →
      exec (.fmovDLoadDisp12 m n d) s = .next (((s.setFreg (n &&& 14) (s.peek32 ea)).setFreg ((n &&& 14) + 1)
        (s.peek32 (ea + 4))).after 4)))

/-- FMOV to memory, single and pair: code and effect. The register field of a pair names an even register; that the
  low bit of the field plays no part is the spec's decision D16 (log 25). Basis: R564, R565, R570, R571, R574, R575,
    R576. -/
def Obligations.fmov_stores : Prop :=
  (∀ (m : FReg) (n : GReg) (s : State), encode (.fmovSStore m n) = [0xF#4 ++ n ++ m ++ 0xA#4] ∧
    (s.held = false → s.fpuReady = true →
      ∀ ea : Word, ea = s.reg n → s.canAccess 4 ea = true →
      exec (.fmovSStore m n) s = .next ((s.poke32 ea (s.freg m)).after 2))) ∧
  (∀ (m : DReg) (n : GReg) (s : State), encode (.fmovDStore m n) = [0xF#4 ++ n ++ m ++ 0xA#4] ∧
    (s.held = false → s.fpuReady = true →
      ∀ ea : Word, ea = s.reg n → s.canAccess 8 ea = true →
      exec (.fmovDStore m n) s = .next ((s.poke64 ea (s.freg (m &&& 14) ++ s.freg ((m &&& 14) + 1))).after 2))) ∧
  (∀ (m : FReg) (n : GReg) (s : State), encode (.fmovSStorePreDec m n) = [0xF#4 ++ n ++ m ++ 0xB#4] ∧
    (s.held = false → s.fpuReady = true →
      ∀ ea : Word, ea = s.reg n - 4 → s.canAccess 4 ea = true →
      exec (.fmovSStorePreDec m n) s = .next (((s.poke32 ea (s.freg m)).setReg n ea).after 2))) ∧
  (∀ (m : DReg) (n : GReg) (s : State), encode (.fmovDStorePreDec m n) = [0xF#4 ++ n ++ m ++ 0xB#4] ∧
    (s.held = false → s.fpuReady = true →
      ∀ ea : Word, ea = s.reg n - 8 → s.canAccess 8 ea = true →
      exec (.fmovDStorePreDec m n) s = .next (((s.poke64 ea (s.freg (m &&& 14) ++ s.freg ((m &&& 14) + 1))).setReg n
        ea).after 2))) ∧
  (∀ (m : FReg) (n : GReg) (s : State), encode (.fmovSStoreIdx m n) = [0xF#4 ++ n ++ m ++ 0x7#4] ∧
    (s.held = false → s.fpuReady = true →
      ∀ ea : Word, ea = s.reg 0 + s.reg n → s.canAccess 4 ea = true →
      exec (.fmovSStoreIdx m n) s = .next ((s.poke32 ea (s.freg m)).after 2))) ∧
  (∀ (m : DReg) (n : GReg) (s : State), encode (.fmovDStoreIdx m n) = [0xF#4 ++ n ++ m ++ 0x7#4] ∧
    (s.held = false → s.fpuReady = true →
      ∀ ea : Word, ea = s.reg 0 + s.reg n → s.canAccess 8 ea = true →
      exec (.fmovDStoreIdx m n) s = .next ((s.poke64 ea (s.freg (m &&& 14) ++ s.freg ((m &&& 14) + 1))).after 2))) ∧
  (∀ (m : FReg) (n : GReg) (d : BitVec 12) (s : State), encode (.fmovSStoreDisp12 m n d) = [0x3#4 ++ n ++ m ++ 0x1#4,
    0x3#4 ++ d] ∧
    (s.held = false → s.fpuReady = true → s.slot = .none →
      ∀ ea : Word, ea = s.reg n + d.setWidth 32 * 4 → s.canAccess 4 ea = true →
      exec (.fmovSStoreDisp12 m n d) s = .next ((s.poke32 ea (s.freg m)).after 4))) ∧
  (∀ (m : DReg) (n : GReg) (d : BitVec 12) (s : State), encode (.fmovDStoreDisp12 m n d) = [0x3#4 ++ n ++ m ++ 0x1#4,
    0x3#4 ++ d] ∧
    (s.held = false → s.fpuReady = true → s.slot = .none →
      ∀ ea : Word, ea = s.reg n + d.setWidth 32 * 8 → s.canAccess 8 ea = true →
      exec (.fmovDStoreDisp12 m n d) s = .next ((s.poke64 ea (s.freg (m &&& 14) ++ s.freg ((m &&& 14) + 1))).after
        4)))

/-- FLDS, FSTS, FLDI0, FLDI1, FSCHG, FABS, FNEG: code and effect. Basis: R579, R580, R581, R582, R583, R512, R513. -/
def Obligations.fpu_register_operations : Prop :=
  (∀ (m : FReg) (s : State), encode (.flds m) = [0xF#4 ++ m ++ 0x1#4 ++ 0xD#4] ∧
    (s.held = false → s.fpuReady = true →
      exec (.flds m) s = .next (({ s with fpul := s.freg m } : State).after 2))) ∧
  (∀ (n : FReg) (s : State), encode (.fsts n) = [0xF#4 ++ n ++ 0x0#4 ++ 0xD#4] ∧
    (s.held = false → s.fpuReady = true →
      exec (.fsts n) s = .next ((s.setFreg n s.fpul).after 2))) ∧
  (∀ (n : FReg) (s : State), encode (.fldi0 n) = [0xF#4 ++ n ++ 0x8#4 ++ 0xD#4] ∧
    (s.held = false → s.fpuReady = true → s.fpscr.getLsbD 19 = false →
      exec (.fldi0 n) s = .next ((s.setFreg n 0x00000000).after 2))) ∧
  (∀ (n : FReg) (s : State), encode (.fldi1 n) = [0xF#4 ++ n ++ 0x9#4 ++ 0xD#4] ∧
    (s.held = false → s.fpuReady = true → s.fpscr.getLsbD 19 = false →
      exec (.fldi1 n) s = .next ((s.setFreg n 0x3F800000).after 2))) ∧
  (∀ (s : State), encode .fschg = [0xF#4 ++ 0x3#4 ++ 0xF#4 ++ 0xD#4] ∧
    (s.held = false → s.fpuReady = true → s.fpscr.getLsbD 19 = false →
      exec .fschg s = .next (({ s with fpscr := s.fpscr ^^^ 0x00100000 } : State).after 2))) ∧
  (∀ (n : FReg) (s : State), encode (.fabsFR n) = [0xF#4 ++ n ++ 0x5#4 ++ 0xD#4] ∧
    (s.held = false → s.fpuReady = true →
      exec (.fabsFR n) s = .next ((s.setFreg n (s.freg n &&& 0x7FFFFFFF)).after 2))) ∧
  (∀ (n : DReg) (s : State), encode (.fabsDR n) = [0xF#4 ++ n ++ 0x5#4 ++ 0xD#4] ∧
    (s.held = false → s.fpuReady = true →
      exec (.fabsDR n) s = .next ((s.setFreg n (s.freg n &&& 0x7FFFFFFF)).after 2))) ∧
  (∀ (n : FReg) (s : State), encode (.fnegFR n) = [0xF#4 ++ n ++ 0x4#4 ++ 0xD#4] ∧
    (s.held = false → s.fpuReady = true →
      exec (.fnegFR n) s = .next ((s.setFreg n (s.freg n ^^^ 0x80000000)).after 2))) ∧
  (∀ (n : DReg) (s : State), encode (.fnegDR n) = [0xF#4 ++ n ++ 0x4#4 ++ 0xD#4] ∧
    (s.held = false → s.fpuReady = true →
      exec (.fnegDR n) s = .next ((s.setFreg n (s.freg n ^^^ 0x80000000)).after 2)))

/-- LDS, LDS.L, STS, STS.L with FPUL and FPSCR: code and effect. R589 and R591 print the mask 0x003FFFFF, the default
  of the product parameter FPSCR_MASK that R45 names (DEDUCED, log 18). Basis: R45, R584, R585, R586, R587, R588,
    R589, R590, R591. -/
def Obligations.fpu_control_transfers : Prop :=
  (∀ (m : GReg) (s : State), encode (.ldsFpul m) = [0x4#4 ++ m ++ 0x5#4 ++ 0xA#4] ∧
    (s.held = false → s.fpuReady = true →
      exec (.ldsFpul m) s = .next (({ s with fpul := s.reg m } : State).after 2))) ∧
  (∀ (m : GReg) (s : State), encode (.ldsLFpul m) = [0x4#4 ++ m ++ 0x5#4 ++ 0x6#4] ∧
    (s.held = false → s.fpuReady = true → s.canAccess 4 (s.reg m) = true →
      exec (.ldsLFpul m) s = .next ((({ s with fpul := s.peek32 (s.reg m) } : State).setReg m (s.reg m + 4)).after
        2))) ∧
  (∀ (m : GReg) (s : State), encode (.ldsFpscr m) = [0x4#4 ++ m ++ 0x6#4 ++ 0xA#4] ∧
    (s.held = false → s.fpuReady = true →
      exec (.ldsFpscr m) s = .next (({ s with fpscr := s.reg m &&& s.cfg.fpscrMask } : State).after 2))) ∧
  (∀ (m : GReg) (s : State), encode (.ldsLFpscr m) = [0x4#4 ++ m ++ 0x6#4 ++ 0x6#4] ∧
    (s.held = false → s.fpuReady = true → s.canAccess 4 (s.reg m) = true →
      exec (.ldsLFpscr m) s = .next ((({ s with fpscr := s.peek32 (s.reg m) &&& s.cfg.fpscrMask } : State).setReg m
        (s.reg m + 4)).after 2))) ∧
  (∀ (n : GReg) (s : State), encode (.stsFpul n) = [0x0#4 ++ n ++ 0x5#4 ++ 0xA#4] ∧
    (s.held = false → s.fpuReady = true →
      exec (.stsFpul n) s = .next ((s.setReg n s.fpul).after 2))) ∧
  (∀ (n : GReg) (s : State), encode (.stsFpscr n) = [0x0#4 ++ n ++ 0x6#4 ++ 0xA#4] ∧
    (s.held = false → s.fpuReady = true →
      exec (.stsFpscr n) s = .next ((s.setReg n (s.fpscr &&& s.cfg.fpscrMask)).after 2))) ∧
  (∀ (n : GReg) (s : State), encode (.stsLFpul n) = [0x4#4 ++ n ++ 0x5#4 ++ 0x2#4] ∧
    (s.held = false → s.fpuReady = true → s.canAccess 4 (s.reg n - 4) = true →
      exec (.stsLFpul n) s = .next (((s.poke32 (s.reg n - 4) s.fpul).setReg n (s.reg n - 4)).after 2))) ∧
  (∀ (n : GReg) (s : State), encode (.stsLFpscr n) = [0x4#4 ++ n ++ 0x6#4 ++ 0x2#4] ∧
    (s.held = false → s.fpuReady = true → s.canAccess 4 (s.reg n - 4) = true →
      exec (.stsLFpscr n) s = .next (((s.poke32 (s.reg n - 4) (s.fpscr &&& s.cfg.fpscrMask)).setReg n (s.reg n -
        4)).after 2)))

/-- Every arithmetic FPU instruction completes with DN = 1 and no trap enabled. Basis: R500, R505, R532,
  46_floating_point.md. -/
def Obligations.fp_completion : Prop :=
  (∀ (m n : FReg) (s : State), s.fpPlain →
    ∀ i ∈ [Instr.faddFR m n, .fsubFR m n, .fmulFR m n, .fdivFR m n, .fsqrtFR n, .floatFR n],
      ∃ r v, exec i s = .next (((s.fpRaise r).setFreg n v).after 2)) ∧
  (∀ (m n : FReg) (s : State), s.fpPlain → s.fpscr.getLsbD 19 = false →
    ∃ r v, exec (.fmac m n) s = .next (((s.fpRaise r).setFreg n v).after 2)) ∧
  (∀ (m n : DReg) (s : State), s.fpPlain →
    ∀ i ∈ [Instr.faddDR m n, .fsubDR m n, .fmulDR m n, .fdivDR m n, .fsqrtDR n, .floatDR n],
      ∃ r v, exec i s = .next (((s.fpRaise r).setDreg n v).after 2)) ∧
  (∀ (m n : FReg) (s : State), s.fpPlain →
    ∀ i ∈ [Instr.fcmpEqFR m n, .fcmpEqDR m n, .fcmpGtFR m n, .fcmpGtDR m n],
      ∃ r b, exec i s = .next (((s.fpRaise r).setT b).after 2)) ∧
  (∀ (m : FReg) (s : State), s.fpPlain → ∀ i ∈ [Instr.ftrcFR m, .ftrcDR m],
      ∃ r v, exec i s = .next (((s.fpRaise r).setFpul v).after 2)) ∧
  (∀ (n : DReg) (s : State), s.fpPlain → s.fpscr.getLsbD 19 = true →
    (∃ r v, exec (.fcnvds n) s = .next (((s.fpRaise r).setFpul v).after 2)) ∧
    (∃ r v, exec (.fcnvsd n) s = .next (((s.fpRaise r).setDreg n v).after 2)))

/-- FADD and FSUB: the special-case tables and the exact sum or difference. The number that a pattern stands for is
  R501 (PRESUMED), its exact arithmetic the spec's decision D21 (log 21). `fpToFr` and `fpToDr` deliver a result to
    FRn or DRn (statement `fp_results_and_traps`), `finish` rounds it (statement `fp_rounding_and_finish`). Basis:
      R501, R509, R514, R515. -/
def Obligations.fadd_fsub_tables : Prop :=
  (∀ (m n : FReg) (s : State), encode (.faddFR m n) = [0xF#4 ++ n ++ m ++ 0x0#4] ∧ exec (.faddFR m n) s = s.fpToFr n
    (fpAdd .single s.fpEnv (s.fr n) (s.fr m))) ∧
  (∀ (m n : DReg) (s : State), encode (.faddDR m n) = [0xF#4 ++ n ++ m ++ 0x0#4] ∧ exec (.faddDR m n) s = s.fpToDr n
    (fpAdd .double s.fpEnv (s.dr n) (s.dr m))) ∧
  (∀ (m n : FReg) (s : State), encode (.fsubFR m n) = [0xF#4 ++ n ++ m ++ 0x1#4] ∧ exec (.fsubFR m n) s = s.fpToFr n
    (fpSub .single s.fpEnv (s.fr n) (s.fr m))) ∧
  (∀ (m n : DReg) (s : State), encode (.fsubDR m n) = [0xF#4 ++ n ++ m ++ 0x1#4] ∧ exec (.fsubDR m n) s = s.fpToDr n
    (fpSub .double s.fpEnv (s.dr n) (s.dr m))) ∧
  (∀ (f : Fmt) (env : FpEnv) (a b : Nat) (A B : FpNum), (f = .single ∨ f = .double) → env.dn = true →
    env.quietSignals = false → a < 2 * f.signWeight → b < 2 * f.signWeight →
    A = classify f true a → B = classify f true b →
    (A = .snan ∨ B = .snan → fpAdd f env a b = .invalid f env) ∧
    (A ≠ .snan → B ≠ .snan → A = .qnan ∨ B = .qnan → fpAdd f env a b = .exact f.qnan) ∧
    (∀ n1 m1 e1 n2 m2 e2, A = .norm n1 m1 e1 → B = .norm n2 m2 e2 → ∃ x : Exact,
      x.standsFor f |((A.value + B.value : ℚ) : ℝ)| ∧ x.neg = decide (A.value + B.value < 0) ∧
      fpAdd f env a b = finish f env.toZero env.enOUI x) ∧
    (∀ n1 n2 m2 e2, B = .norm n2 m2 e2 → A = .zero n1 → fpAdd f env a b = .exact b) ∧
    (∀ n1 n2 m2 e2, B = .norm n2 m2 e2 → A = .inf n1 → fpAdd f env a b = .exact a) ∧
    (∀ n1 n2, A = .zero n1 → B = .zero n2 → fpAdd f env a b = .exact (f.zero (n1 && n2))) ∧
    (∀ n1 m1 e1 n2, A = .norm n1 m1 e1 → B = .zero n2 → fpAdd f env a b = .exact a) ∧
    (∀ n1 n2, A = .inf n1 → B = .zero n2 → fpAdd f env a b = .exact a) ∧
    (∀ n1 n2, A = .inf n1 → B = .inf n2 →
      fpAdd f env a b = if n1 = n2 then .exact (f.infinity n2) else .invalid f env) ∧
    (∀ n1 n2, A = .zero n1 → B = .inf n2 → fpAdd f env a b = .exact (f.infinity n2)) ∧
    (∀ n1 m1 e1 n2, A = .norm n1 m1 e1 → B = .inf n2 → fpAdd f env a b = .exact (f.infinity n2))) ∧
  (∀ (f : Fmt) (env : FpEnv) (a b : Nat) (A B : FpNum), (f = .single ∨ f = .double) → env.dn = true →
    env.quietSignals = false → a < 2 * f.signWeight → b < 2 * f.signWeight →
    A = classify f true a → B = classify f true b →
    (A = .snan ∨ B = .snan → fpSub f env a b = .invalid f env) ∧
    (A ≠ .snan → B ≠ .snan → A = .qnan ∨ B = .qnan → fpSub f env a b = .exact f.qnan) ∧
    (∀ n1 m1 e1 n2 m2 e2, A = .norm n1 m1 e1 → B = .norm n2 m2 e2 → ∃ x : Exact,
      x.standsFor f |((A.value - B.value : ℚ) : ℝ)| ∧ x.neg = decide (A.value - B.value < 0) ∧
      fpSub f env a b = finish f env.toZero env.enOUI x) ∧
    (∀ n1 n2 m2 e2, B = .norm n2 m2 e2 → A = .zero n1 → fpSub f env a b = .exact (f.negate b)) ∧
    (∀ n1 n2 m2 e2, B = .norm n2 m2 e2 → A = .inf n1 → fpSub f env a b = .exact a) ∧
    (∀ n1 n2, A = .zero n1 → B = .zero n2 → fpSub f env a b = .exact (f.zero (n1 && !n2))) ∧
    (∀ n1 m1 e1 n2, A = .norm n1 m1 e1 → B = .zero n2 → fpSub f env a b = .exact a) ∧
    (∀ n1 n2, A = .inf n1 → B = .zero n2 → fpSub f env a b = .exact a) ∧
    (∀ n1 n2, A = .inf n1 → B = .inf n2 →
      fpSub f env a b = if n1 = n2 then .invalid f env else .exact (f.infinity (!n2))) ∧
    (∀ n1 n2, A = .zero n1 → B = .inf n2 → fpSub f env a b = .exact (f.infinity (!n2))) ∧
    (∀ n1 m1 e1 n2, A = .norm n1 m1 e1 → B = .inf n2 → fpSub f env a b = .exact (f.infinity (!n2))))

/-- FMUL and FDIV: the special-case tables and the exact product or quotient. The number that a pattern stands for is
  R501 (PRESUMED), its exact arithmetic the spec's decision D21 (log 21). Basis: R501, R509, R516, R517. -/
def Obligations.fmul_fdiv_tables : Prop :=
  (∀ (m n : FReg) (s : State), encode (.fmulFR m n) = [0xF#4 ++ n ++ m ++ 0x2#4] ∧ exec (.fmulFR m n) s = s.fpToFr n
    (fpMul .single s.fpEnv (s.fr n) (s.fr m))) ∧
  (∀ (m n : DReg) (s : State), encode (.fmulDR m n) = [0xF#4 ++ n ++ m ++ 0x2#4] ∧ exec (.fmulDR m n) s = s.fpToDr n
    (fpMul .double s.fpEnv (s.dr n) (s.dr m))) ∧
  (∀ (m n : FReg) (s : State), encode (.fdivFR m n) = [0xF#4 ++ n ++ m ++ 0x3#4] ∧ exec (.fdivFR m n) s = s.fpToFr n
    (fpDiv .single s.fpEnv (s.fr n) (s.fr m))) ∧
  (∀ (m n : DReg) (s : State), encode (.fdivDR m n) = [0xF#4 ++ n ++ m ++ 0x3#4] ∧ exec (.fdivDR m n) s = s.fpToDr n
    (fpDiv .double s.fpEnv (s.dr n) (s.dr m))) ∧
  (∀ (f : Fmt) (env : FpEnv) (a b : Nat) (A B : FpNum), (f = .single ∨ f = .double) → env.dn = true →
    env.quietSignals = false → a < 2 * f.signWeight → b < 2 * f.signWeight →
    A = classify f true a → B = classify f true b →
    (A = .snan ∨ B = .snan → fpMul f env a b = .invalid f env) ∧
    (A ≠ .snan → B ≠ .snan → A = .qnan ∨ B = .qnan → fpMul f env a b = .exact f.qnan) ∧
    (∀ n1 n2, A = .zero n1 → B = .inf n2 → fpMul f env a b = .invalid f env) ∧
    (∀ n1 n2, A = .inf n1 → B = .zero n2 → fpMul f env a b = .invalid f env) ∧
    (A.isNan = false → B.isNan = false → A.isZero = false → B.isZero = false → A.isInf = true ∨ B.isInf = true →
      fpMul f env a b = .exact (f.infinity (f.isNeg a ^^ f.isNeg b))) ∧
    (A.isNan = false → B.isNan = false → A.isInf = false → B.isInf = false → A.isZero = true ∨ B.isZero = true →
      fpMul f env a b = .exact (f.zero (f.isNeg a ^^ f.isNeg b))) ∧
    (∀ n1 m1 e1 n2 m2 e2, A = .norm n1 m1 e1 → B = .norm n2 m2 e2 → ∃ x : Exact,
      x.standsFor f |((A.value * B.value : ℚ) : ℝ)| ∧ x.neg = (f.isNeg a ^^ f.isNeg b) ∧
      fpMul f env a b = finish f env.toZero env.enOUI x)) ∧
  (∀ (f : Fmt) (env : FpEnv) (a b : Nat) (A B : FpNum), (f = .single ∨ f = .double) → env.dn = true →
    env.quietSignals = false → a < 2 * f.signWeight → b < 2 * f.signWeight →
    A = classify f true a → B = classify f true b →
    (A = .snan ∨ B = .snan → fpDiv f env a b = .invalid f env) ∧
    (A ≠ .snan → B ≠ .snan → A = .qnan ∨ B = .qnan → fpDiv f env a b = .exact f.qnan) ∧
    (∀ n1 n2, A = .zero n1 → B = .zero n2 → fpDiv f env a b = .invalid f env) ∧
    (∀ n1 n2, A = .inf n1 → B = .inf n2 → fpDiv f env a b = .invalid f env) ∧
    (∀ n1 m1 e1 n2, A = .norm n1 m1 e1 → B = .zero n2 → fpDiv f env a b = .divideByZero f env (f.isNeg a ^^ f.isNeg
      b)) ∧
    (∀ n1 n2, A = .inf n1 → B = .zero n2 → fpDiv f env a b = .exact (f.infinity (f.isNeg a ^^ f.isNeg b))) ∧
    (∀ n2, B = .inf n2 → A.isNan = false → A.isInf = false → fpDiv f env a b = .exact (f.zero (f.isNeg a ^^ f.isNeg
      b))) ∧
    (∀ n1 n2 m2 e2, B = .norm n2 m2 e2 → A = .inf n1 → fpDiv f env a b = .exact (f.infinity (f.isNeg a ^^ f.isNeg
      b))) ∧
    (∀ n1 n2 m2 e2, B = .norm n2 m2 e2 → A = .zero n1 → fpDiv f env a b = .exact (f.zero (f.isNeg a ^^ f.isNeg b))) ∧
    (∀ n1 m1 e1 n2 m2 e2, A = .norm n1 m1 e1 → B = .norm n2 m2 e2 → ∃ x : Exact,
      x.standsFor f |((A.value / B.value : ℚ) : ℝ)| ∧ x.neg = (f.isNeg a ^^ f.isNeg b) ∧
      fpDiv f env a b = finish f env.toZero env.enOUI x))

/-- FMAC: the special-case table and one rounding of the exact product and sum. The number that a pattern stands for
  is R501 (PRESUMED), its exact arithmetic the spec's decision D21 (log 21). Basis: R501, R509, R518. -/
def Obligations.fmac_table : Prop :=
  (∀ (m n : FReg) (s : State), encode (.fmac m n) = [0xF#4 ++ n ++ m ++ 0xE#4] ∧ (s.fpuReady = true → s.fpscr.getLsbD
    19 = false →
    exec (.fmac m n) s = s.fpToFr n (fpMac s.fpEnv (s.fr 0) (s.fr m) (s.fr n)))) ∧
  (∀ (env : FpEnv) (c b a : Nat) (C B A : FpNum) (p : Bool), env.dn = true → env.quietSignals = false →
    C = classify .single true c → B = classify .single true b → A = classify .single true a →
    p = (Fmt.single.isNeg c ^^ Fmt.single.isNeg b) →
    (C = .snan ∨ B = .snan ∨ A = .snan → fpMac env c b a = .invalid .single env) ∧
    (C ≠ .snan → B ≠ .snan → A ≠ .snan →
      ((C.isZero = true ∧ B.isInf = true) ∨ (C.isInf = true ∧ B.isZero = true) → fpMac env c b a = .invalid .single
        env) ∧
      (¬((C.isZero = true ∧ B.isInf = true) ∨ (C.isInf = true ∧ B.isZero = true)) →
        (C = .qnan ∨ B = .qnan → fpMac env c b a = .exact Fmt.single.qnan) ∧
        (C ≠ .qnan → B ≠ .qnan →
          (C.isInf = true ∨ B.isInf = true →
            (A = .qnan → fpMac env c b a = .exact Fmt.single.qnan) ∧
            (∀ sn, A = .inf sn → fpMac env c b a =
              if sn = p then .exact (Fmt.single.infinity p) else .invalid .single env) ∧
            (A ≠ .qnan → A.isInf = false → fpMac env c b a = .exact (Fmt.single.infinity p))) ∧
          (C.isInf = false → B.isInf = false →
            (A = .qnan → fpMac env c b a = .exact Fmt.single.qnan) ∧
            (∀ sn, A = .inf sn → fpMac env c b a = .exact a) ∧
            (C.isZero = true ∨ B.isZero = true → ∀ sn, A = .zero sn →
              fpMac env c b a = .exact (Fmt.single.zero (p && sn))) ∧
            (C.isZero = true ∨ B.isZero = true → ∀ sn m e, A = .norm sn m e → fpMac env c b a = .exact a) ∧
            (C.isZero = false → B.isZero = false → A.isInf = false → A ≠ .qnan → ∃ x : Exact,
              x.standsFor .single |((C.value * B.value + A.value : ℚ) : ℝ)| ∧
              x.neg = decide (C.value * B.value + A.value < 0) ∧
              fpMac env c b a = finish .single env.toZero env.enOUI x))))))

/-- FSQRT, FCNVDS, FCNVSD: results by operand class. FCNVSD of a normal operand is a sentence that R524 marks as
  derived from R501. The number that a pattern stands for is R501 (PRESUMED), its exact arithmetic the spec's
    decision D21 (log 21). Basis: R501, R509, R523, R524, R536. -/
def Obligations.fsqrt_and_precision_conversions : Prop :=
  (∀ (n : FReg) (s : State), encode (.fsqrtFR n) = [0xF#4 ++ n ++ 0x6#4 ++ 0xD#4] ∧ exec (.fsqrtFR n) s = s.fpToFr n
    (fpSqrt .single s.fpEnv (s.fr n))) ∧
  (∀ (n : DReg) (s : State), encode (.fsqrtDR n) = [0xF#4 ++ n ++ 0x6#4 ++ 0xD#4] ∧ exec (.fsqrtDR n) s = s.fpToDr n
    (fpSqrt .double s.fpEnv (s.dr n))) ∧
  (∀ (m n : DReg) (s : State), encode (.fcnvds m) = [0xF#4 ++ m ++ 0xB#4 ++ 0xD#4] ∧ encode (.fcnvsd n) = [0xF#4 ++ n
    ++ 0xA#4 ++ 0xD#4] ∧
    (s.fpuReady = true → s.fpscr.getLsbD 19 = true →
      exec (.fcnvds m) s = s.fpToFpul (fpDoubleToSingle s.fpEnv (s.dr m)) ∧
      exec (.fcnvsd n) s = s.fpToDr n (fpSingleToDouble s.fpEnv s.fpul.toNat))) ∧
  (∀ (f : Fmt) (env : FpEnv) (a : Nat) (A : FpNum), (f = .single ∨ f = .double) → env.dn = true →
    env.quietSignals = false → a < 2 * f.signWeight → A = classify f true a →
    (A = .snan → fpSqrt f env a = .invalid f env) ∧ (A = .qnan → fpSqrt f env a = .exact f.qnan) ∧
    (A = .inf true → fpSqrt f env a = .invalid f env) ∧ (A = .inf false → fpSqrt f env a = .exact a) ∧
    (∀ m e, A = .norm true m e → fpSqrt f env a = .invalid f env) ∧
    (∀ neg, A = .zero neg → fpSqrt f env a = .exact (f.zero neg)) ∧
    (∀ m e, A = .norm false m e → ∃ x : Exact, x.standsFor f (Real.sqrt ((A.value : ℚ) : ℝ)) ∧ x.neg = false ∧
      fpSqrt f env a = finish f env.toZero env.enI x)) ∧
  (∀ (env : FpEnv) (a : Nat) (A : FpNum), env.dn = true → env.quietSignals = false → A = classify .double true a →
    (A = .snan → fpDoubleToSingle env a = .invalid .single env) ∧
    (A = .qnan → fpDoubleToSingle env a = .exact 0x7FBFFFFF) ∧
    (A = .inf false → fpDoubleToSingle env a = .exact 0x7F800000) ∧
    (A = .inf true → fpDoubleToSingle env a = .exact 0xFF800000) ∧
    (∀ neg, A = .zero neg → fpDoubleToSingle env a = finish .single env.toZero env.enOUI ⟨neg, 0, 0, false⟩) ∧
    (∀ neg m e, A = .norm neg m e → ∃ x : Exact, x.standsFor .single |((A.value : ℚ) : ℝ)| ∧ x.neg = neg ∧
      fpDoubleToSingle env a = finish .single env.toZero env.enOUI x)) ∧
  (∀ (env : FpEnv) (a : Nat) (A : FpNum), env.dn = true → env.quietSignals = false → A = classify .single true a →
    (A = .snan → fpSingleToDouble env a = .invalid .double env) ∧
    (A = .qnan → fpSingleToDouble env a = .exact 0x7FF7FFFFFFFFFFFF) ∧
    (∀ neg, A = .inf neg → fpSingleToDouble env a = .exact (Fmt.double.infinity neg)) ∧
    (∀ neg, A = .zero neg → fpSingleToDouble env a = .exact (Fmt.double.zero neg)) ∧
    (∀ neg m e, A = .norm neg m e → ∃ r, fpSingleToDouble env a = .exact r ∧ (classify .double true r).value =
      A.value ∧
      r / 2 ^ 52 % 2 ^ 11 = a / 2 ^ 23 % 2 ^ 8 + 896 ∧ r % 2 ^ 52 = a % 2 ^ 23 * 2 ^ 29))

/-- FCMP/EQ, FCMP/GT, FLOAT, FTRC: relation, T and converted integer. FLOAT rounded by RM is the spec's decision D22
  (log 32), the PC saved when a comparison traps the precise exception of D4 (log 19). The number that a pattern
    stands for is R501 (PRESUMED), its exact arithmetic the spec's decision D21 (log 21). Basis: R501, R509, R520,
      R521, R522, R530, R531, R738. -/
def Obligations.fp_compare_and_integer_conversions : Prop :=
  (∀ (m n : FReg) (s : State),
    encode (.fcmpEqFR m n) = [0xF#4 ++ n ++ m ++ 0x4#4] ∧ encode (.fcmpGtFR m n) = [0xF#4 ++ n ++ m ++ 0x5#4] ∧
    encode (.fcmpEqDR m n) = [0xF#4 ++ n ++ m ++ 0x4#4] ∧ encode (.fcmpGtDR m n) = [0xF#4 ++ n ++ m ++ 0x5#4] ∧
    exec (.fcmpEqFR m n) s = s.fcmpEq (fpCompare .single s.fpEnv (s.fr n) (s.fr m)) ∧
    exec (.fcmpGtFR m n) s = s.fcmpGt (fpCompare .single s.fpEnv (s.fr n) (s.fr m)) ∧
    exec (.fcmpEqDR m n) s = s.fcmpEq (fpCompare .double s.fpEnv (s.dr n) (s.dr m)) ∧
    exec (.fcmpGtDR m n) s = s.fcmpGt (fpCompare .double s.fpEnv (s.dr n) (s.dr m))) ∧
  (∀ (f : Fmt) (env : FpEnv) (a b : Nat) (A B : FpNum), (f = .single ∨ f = .double) → env.dn = true →
    env.quietSignals = false → A = classify f true a → B = classify f true b →
    (A = .snan ∨ B = .snan → fpCompare f env a b = .invalid) ∧
    (A ≠ .snan → B ≠ .snan → A = .qnan ∨ B = .qnan → fpCompare f env a b = .unordered) ∧
    (A.isNan = false → B.isNan = false → A.isInf = false → B.isInf = false →
      fpCompare f env a b = if A.value = B.value then .eq else if B.value < A.value then .gt else .lt) ∧
    (∀ n1, A = .inf n1 → B.isNan = false → fpCompare f env a b =
      if B = .inf n1 then .eq else if n1 then .lt else .gt) ∧
    (∀ n2, B = .inf n2 → A.isNan = false → fpCompare f env a b =
      if A = .inf n2 then .eq else if n2 then .gt else .lt)) ∧
  (∀ (s : State) (rel : FpRel), s.fpuReady = true → s.held = false →
    (rel ≠ .invalid → s.fcmpEq rel = .next (((s.fpRaise 0).setT (rel == .eq)).after 2)) ∧
    (rel ≠ .invalid → rel ≠ .unordered → s.fcmpGt rel = .next (((s.fpRaise 0).setT (rel == .gt)).after 2)) ∧
    (s.fpscr.getLsbD 11 = false →
      s.fcmpEq .invalid = .next (((s.fpRaise 0x00010040).setT false).after 2) ∧
      s.fcmpGt .invalid = .next (((s.fpRaise 0x00010040).setT false).after 2) ∧
      s.fcmpGt .unordered = .next (((s.fpRaise 0x00010040).setT false).after 2)) ∧
    (s.fpscr.getLsbD 11 = true →
      (let t := (((s.fpRaise 0x00010040).setT false).after 2); s.fcmpEq .invalid = .next (t.raise .fpu t.pc) ∧
        s.fcmpGt .invalid = .next (t.raise .fpu t.pc) ∧ s.fcmpGt .unordered = .next (t.raise .fpu t.pc)))) ∧
  (∀ (n : FReg) (s : State), encode (.floatFR n) = [0xF#4 ++ n ++ 0x2#4 ++ 0xD#4] ∧ exec (.floatFR n) s = s.fpToFr n
    (fpFloatSingle s.fpEnv s.fpul.toInt)) ∧
  (∀ (n : DReg) (s : State), encode (.floatDR n) = [0xF#4 ++ n ++ 0x2#4 ++ 0xD#4] ∧ exec (.floatDR n) s = s.fpToDr n
    (fpFloatDouble s.fpEnv s.fpul.toInt)) ∧
  (∀ (env : FpEnv) (k : Int), (∃ x : Exact, x.standsFor .single (|k| : ℝ) ∧ x.neg = decide (k < 0) ∧
      fpFloatSingle env k = finish .single env.toZero env.enI x) ∧
    (-0x80000000 ≤ k → k < 0x80000000 → ∃ r, fpFloatDouble env k = .exact r ∧ r < 2 ^ 64 ∧
      (classify .double true r).value = k ∧ (k = 0 → r = 0))) ∧
  (∀ (m : FReg) (s : State), encode (.ftrcFR m) = [0xF#4 ++ m ++ 0x3#4 ++ 0xD#4] ∧ exec (.ftrcFR m) s = s.fpToFpul
    (fpTruncSingle s.fpEnv (s.fr m))) ∧
  (∀ (m : DReg) (s : State), encode (.ftrcDR m) = [0xF#4 ++ m ++ 0x3#4 ++ 0xD#4] ∧ exec (.ftrcDR m) s = s.fpToFpul
    (fpTruncDouble s.fpEnv (s.dr m))) ∧
  (∀ (env : FpEnv) (h a : Nat), h < 2 ^ 32 → a = h % 2 ^ 31 →
    (h < 2 ^ 31 → 0x7F800000 < a → fpTruncSingle env h = ftrcInvalid env true) ∧
    (h < 2 ^ 31 → 0x4EFFFFFF < a → a ≤ 0x7F800000 → fpTruncSingle env h = ftrcInvalid env false) ∧
    (2 ^ 31 ≤ h → 0x4F000000 < a → fpTruncSingle env h = ftrcInvalid env true) ∧
    ((h < 2 ^ 31 ∧ a ≤ 0x4EFFFFFF) ∨ (2 ^ 31 ≤ h ∧ a ≤ 0x4F000000) →
      ∃ z : Int, truncates z (classify .single true h).value ∧
        fpTruncSingle env h = .exact (BitVec.ofInt 32 z).toNat)) ∧
  (∀ (env : FpEnv) (h a : Nat), h < 2 ^ 64 → a = h % 2 ^ 63 →
    (h < 2 ^ 63 → 0x7FF0000000000000 < a → fpTruncDouble env h = ftrcInvalid env true) ∧
    (h < 2 ^ 63 → 0x41E0000000000000 ≤ a → a ≤ 0x7FF0000000000000 → fpTruncDouble env h = ftrcInvalid env false) ∧
    (2 ^ 63 ≤ h → 0x41E0000000200000 ≤ a → fpTruncDouble env h = ftrcInvalid env true) ∧
    ((h < 2 ^ 63 ∧ a < 0x41E0000000000000) ∨ (2 ^ 63 ≤ h ∧ a < 0x41E0000000200000) →
      ∃ z : Int, truncates z (classify .double true h).value ∧
        fpTruncDouble env h = .exact (BitVec.ofInt 32 z).toNat)) ∧
  (∀ (env : FpEnv) (neg : Bool), ftrcInvalid env neg =
    ⟨0x00010040, if env.enV then .trap else .write (if neg then 0x80000000 else 0x7FFFFFFF)⟩)

/-- The computed path: rounding, overflow, underflow and the written pattern. The computed path is the spec's
  decision D21, the model's choice (log 21). Basis: R509, R510. -/
def Obligations.fp_rounding_and_finish : Prop :=
  (∀ (f : Fmt) (x : Exact) (r : ℝ) (e q : Int), (f = .single ∨ f = .double) → 0 < r → x.standsFor f r →
    (2 : ℝ) ^ e ≤ r → r < 2 ^ (e + 1) → q = max e f.emin - f.precision + 1 →
    (roundExact f false x).exp = q ∧ (roundExact f true x).exp = q ∧
    |((roundExact f false x).value : ℝ) - r| * 2 ≤ 2 ^ q ∧
    (|((roundExact f false x).value : ℝ) - r| * 2 = 2 ^ q → (roundExact f false x).mant % 2 = 0) ∧
    ((roundExact f true x).value : ℝ) ≤ r ∧ r < ((roundExact f true x).value : ℝ) + 2 ^ q ∧
    ∀ toZero : Bool, ((roundExact f toZero x).inexact = true ↔ ((roundExact f toZero x).value : ℝ) ≠ r)) ∧
  (∀ (f : Fmt) (toZero trap : Bool) (x : Exact) (r v : ℝ), (f = .single ∨ f = .double) → 0 < r → x.standsFor f r →
    v = ((roundExact f toZero x).value : ℝ) →
    ((2 : ℝ) ^ (f.emax + 1) ≤ v → finish f toZero trap x =
      ⟨0x00005014, if trap then .trap else .write (if toZero then f.maxNorm x.neg else f.infinity x.neg)⟩) ∧
    (v < 2 ^ f.emin → finish f toZero trap x = ⟨0x0000300C, if trap then .trap else .write (f.zero x.neg)⟩) ∧
    ((2 : ℝ) ^ f.emin ≤ v → v < 2 ^ (f.emax + 1) → ∃ p m e,
      finish f toZero trap x = ⟨if (roundExact f toZero x).inexact then 0x00001004 else 0, if trap then .trap else
        .write p⟩ ∧
      classify f true p = .norm x.neg m e ∧ ((m * 2 ^ e : ℚ) : ℝ) = v)) ∧
  (∀ (f : Fmt) (toZero trap : Bool) (x : Exact), x.sticky = false → x.mant = 0 →
    finish f toZero trap x = ⟨0, if trap then .trap else .write (f.zero x.neg)⟩)

/-- Operand classes, special patterns and the two helpers invalid and dz. The number that a normal pattern stands for
  is R501, which the spec marks as general knowledge (PRESUMED, log 21). Basis: R501, R502, R504, R511. -/
def Obligations.fp_operand_classes : Prop :=
  (∀ x a : Nat, x < 2 ^ 32 → a = x % 2 ^ 31 →
    (a < 2 ^ 23 → classify .single true x = .zero (decide (2 ^ 31 ≤ x))) ∧
    (a = 0 → classify .single false x = .zero (decide (2 ^ 31 ≤ x))) ∧
    (a ≠ 0 → a < 2 ^ 23 → classify .single false x = .denorm (decide (2 ^ 31 ≤ x))) ∧
    (∀ dn : Bool, (2 ^ 23 ≤ a → a < 0x7F800000 → classify .single dn x =
        .norm (decide (2 ^ 31 ≤ x)) (2 ^ 23 + x % 2 ^ 23) (((x / 2 ^ 23 % 2 ^ 8 : Nat) : Int) - 150)) ∧
      (a = 0x7F800000 → classify .single dn x = .inf (decide (2 ^ 31 ≤ x))) ∧
      (0x7F800000 < a → a < 0x7FC00000 → classify .single dn x = .qnan) ∧
      (0x7FC00000 ≤ a → classify .single dn x = .snan))) ∧
  (∀ x a : Nat, x < 2 ^ 64 → a = x % 2 ^ 63 →
    (a < 2 ^ 52 → classify .double true x = .zero (decide (2 ^ 63 ≤ x))) ∧
    (a = 0 → classify .double false x = .zero (decide (2 ^ 63 ≤ x))) ∧
    (a ≠ 0 → a < 2 ^ 52 → classify .double false x = .denorm (decide (2 ^ 63 ≤ x))) ∧
    (∀ dn : Bool, (2 ^ 52 ≤ a → a < 0x7FF0000000000000 → classify .double dn x =
        .norm (decide (2 ^ 63 ≤ x)) (2 ^ 52 + x % 2 ^ 52) (((x / 2 ^ 52 % 2 ^ 11 : Nat) : Int) - 1075)) ∧
      (a = 0x7FF0000000000000 → classify .double dn x = .inf (decide (2 ^ 63 ≤ x))) ∧
      (0x7FF0000000000000 < a → a < 0x7FF8000000000000 → classify .double dn x = .qnan) ∧
      (0x7FF8000000000000 ≤ a → classify .double dn x = .snan))) ∧
  (Fmt.single.zero false = 0 ∧ Fmt.single.zero true = 0x80000000 ∧ Fmt.single.infinity false = 0x7F800000 ∧
    Fmt.single.infinity true = 0xFF800000 ∧ Fmt.single.qnan = 0x7FBFFFFF ∧ Fmt.double.zero false = 0 ∧
    Fmt.double.zero true = 0x8000000000000000 ∧ Fmt.double.infinity false = 0x7FF0000000000000 ∧
    Fmt.double.infinity true = 0xFFF0000000000000 ∧ Fmt.double.qnan = 0x7FF7FFFFFFFFFFFF) ∧
  (∀ (f : Fmt) (env : FpEnv) (neg : Bool),
    FpResult.invalid f env = ⟨0x00010040, if env.enV then .trap else .write f.qnan⟩ ∧
    FpResult.divideByZero f env neg = ⟨0x00008020, if env.enZ then .trap else .write (f.infinity neg)⟩)

/-- What an FPU result or trap does: Cause, Flag, destination, vector 13. The model's choices: precise traps (D4, log
  19), bit 0 of RM alone (log 17), QIS at bit 22 with Enable.V (log 18). Basis: R43, R505, R507, R508, R509, R532,
    R738. -/
def Obligations.fp_results_and_traps : Prop :=
  (∀ (s : State) (n : FReg) (r : FpResult), s.fpuReady = true →
    (s.held = false →
      (∀ x, r.out = .write x → s.fpToFr n r = .next (((s.fpRaise r.raised).setFreg n (BitVec.ofNat 32 x)).after 2)) ∧
      (r.out = .trap → s.fpToFr n r = .next (((s.fpRaise r.raised).after 2).raise .fpu (s.following 2)))) ∧
    (s.held = false →
      (∀ x, r.out = .write x → s.fpToDr n r = .next (((s.fpRaise r.raised).setDreg n (BitVec.ofNat 64 x)).after 2)) ∧
      (r.out = .trap → s.fpToDr n r = .next (((s.fpRaise r.raised).after 2).raise .fpu (s.following 2)))) ∧
    (s.held = false →
      (∀ x, r.out = .write x → s.fpToFpul r = .next (((s.fpRaise r.raised).setFpul (BitVec.ofNat 32 x)).after 2)) ∧
      (r.out = .trap → s.fpToFpul r = .next (((s.fpRaise r.raised).after 2).raise .fpu (s.following 2))))) ∧
  (∀ (s : State) (raised : Word), (s.fpRaise raised).fpscr = (s.fpscr &&& 0xFFFC0FFF) ||| raised ∧
    SameRegs s (s.fpRaise raised) [] ∧ SameFregs s (s.fpRaise raised) [] ∧ (s.fpRaise raised).sr = s.sr ∧
    (s.fpRaise raised).mem = s.mem ∧ SameSpecials s (s.fpRaise raised) [.fpscr]) ∧
  (∀ s : State, s.fpEnv.dn = s.fpscr.getLsbD 18 ∧ s.fpEnv.toZero = s.fpscr.getLsbD 0 ∧
    s.fpEnv.enV = s.fpscr.getLsbD 11 ∧ s.fpEnv.enZ = s.fpscr.getLsbD 10 ∧ s.fpEnv.enI = s.fpscr.getLsbD 7 ∧
    s.fpEnv.enOUI = (s.fpscr.getLsbD 9 || s.fpscr.getLsbD 8 || s.fpscr.getLsbD 7) ∧
    s.fpEnv.quietSignals = (s.fpscr.getLsbD 22 && s.fpscr.getLsbD 11))

/-- What the register-only instructions leave unchanged. Basis: R200, R300, R360, R390, R450, R602. -/
def Obligations.register_frame : Prop :=
  ∀ (m n : GReg) (i8 : BitVec 8) (d8 : BitVec 8) (i3 : BitVec 3) (s t : State), s.held = false →
    ∀ p ∈ ([
      (.movImm n i8, [n], 0, []),
      (.movReg m n, [n], 0, []),
      (.movrt n, [n], 0, []),
      (.movt n, [n], 0, []),
      (.swapB m n, [n], 0, []),
      (.swapW m n, [n], 0, []),
      (.xtrct m n, [n], 0, []),
      (.add m n, [n], 0, []),
      (.addImm n i8, [n], 0, []),
      (.neg m n, [n], 0, []),
      (.sub m n, [n], 0, []),
      (.extsB m n, [n], 0, []),
      (.extsW m n, [n], 0, []),
      (.extuB m n, [n], 0, []),
      (.extuW m n, [n], 0, []),
      (.mulr n, [n], 0, []),
      (.andReg m n, [n], 0, []),
      (.notReg m n, [n], 0, []),
      (.orReg m n, [n], 0, []),
      (.xorReg m n, [n], 0, []),
      (.shll2 n, [n], 0, []),
      (.shll8 n, [n], 0, []),
      (.shll16 n, [n], 0, []),
      (.shlr2 n, [n], 0, []),
      (.shlr8 n, [n], 0, []),
      (.shlr16 n, [n], 0, []),
      (.shad m n, [n], 0, []),
      (.shld m n, [n], 0, []),
      (.stcSr n, [n], 0, []),
      (.stcGbr n, [n], 0, []),
      (.stcVbr n, [n], 0, []),
      (.stcTbr n, [n], 0, []),
      (.stsMach n, [n], 0, []),
      (.stsMacl n, [n], 0, []),
      (.stsPr n, [n], 0, []),
      (.bclrReg n i3, [n], 0, []),
      (.bsetReg n i3, [n], 0, []),
      (.bstReg n i3, [n], 0, []),
      (.mova d8, [0], 0, []),
      (.andImm i8, [0], 0, []),
      (.orImm i8, [0], 0, []),
      (.xorImm i8, [0], 0, []),
      (.addc m n, [n], 1, []),
      (.addv m n, [n], 1, []),
      (.negc m n, [n], 1, []),
      (.subc m n, [n], 1, []),
      (.subv m n, [n], 1, []),
      (.dt n, [n], 1, []),
      (.rotl n, [n], 1, []),
      (.rotr n, [n], 1, []),
      (.rotcl n, [n], 1, []),
      (.rotcr n, [n], 1, []),
      (.shal n, [n], 1, []),
      (.shar n, [n], 1, []),
      (.shll n, [n], 1, []),
      (.shlr n, [n], 1, []),
      (.clipsB n, [n], 0x2000, []),
      (.clipsW n, [n], 0x2000, []),
      (.clipuB n, [n], 0x2000, []),
      (.clipuW n, [n], 0x2000, []),
      (.cmpEqImm i8, [], 1, []),
      (.cmpEq m n, [], 1, []),
      (.cmpHs m n, [], 1, []),
      (.cmpGe m n, [], 1, []),
      (.cmpHi m n, [], 1, []),
      (.cmpGt m n, [], 1, []),
      (.cmpPl n, [], 1, []),
      (.cmpPz n, [], 1, []),
      (.cmpStr m n, [], 1, []),
      (.tstReg m n, [], 1, []),
      (.tstImm i8, [], 1, []),
      (.bldReg n i3, [], 1, []),
      (.nott, [], 1, []),
      (.clrt, [], 1, []),
      (.sett, [], 1, []),
      (.div0s m n, [], 0x301, []),
      (.div0u, [], 0x301, []),
      (.div1 m n, [n], 0x101, []),
      (.pref n, [], 0, []),
      (.nop, [], 0, []),
      (.sleep, [], 0, []),
      (.dmulsL m n, [], 0, [.mach, .macl]),
      (.dmuluL m n, [], 0, [.mach, .macl]),
      (.clrmac, [], 0, [.mach, .macl]),
      (.mulL m n, [], 0, [.macl]),
      (.mulsW m n, [], 0, [.macl]),
      (.muluW m n, [], 0, [.macl]),
      (.ldcSr m, [], 0xFFFFFFFF, []),
      (.ldcGbr m, [], 0, [.gbr]),
      (.ldcVbr m, [], 0, [.vbr]),
      (.ldcTbr m, [], 0, [.tbr]),
      (.ldsMach m, [], 0, [.mach]),
      (.ldsMacl m, [], 0, [.macl]),
      (.ldsPr m, [], 0, [.pr])] :
      List (Instr × List GReg × Word × List Special)),
    exec p.1 s = .next t → SameBut s t p.2.1 [] p.2.2.1 p.2.2.2 ∧ SameMemory s t

/-- What the loading instructions leave unchanged. Basis: R200, R450, R560, R601. -/
def Obligations.load_frame : Prop :=
  ∀ (m n : GReg) (i3 : BitVec 3) (i8 : BitVec 8) (d4 : BitVec 4) (d8 : BitVec 8) (d12 : BitVec 12) (s t : State),
    s.held = false → s.slot = .none →
    (∀ p ∈ ([
      (.movWPcRel n d8, 2, s.eaPcWord d8, [n], 0, []),
      (.movLPcRel n d8, 4, s.eaPcLong d8, [n], 0, []),
      (.movBLoad m n, 1, s.reg m, [n], 0, []),
      (.movBLoadPostInc m n, 1, s.reg m, [n, m], 0, []),
      (.movBLoadIdx m n, 1, s.eaIndexed m, [n], 0, []),
      (.movBLoadGbr d8, 1, s.eaGbr d8 0, [0], 0, []),
      (.movBLoadPreDec m, 1, s.reg m - 1, [m, 0], 0, []),
      (.movBLoadDisp12 m n d12, 1, s.eaDisp m d12 0, [n], 0, []),
      (.movBLoadDisp4 m d4, 1, s.eaDisp m d4 0, [0], 0, []),
      (.movWLoad m n, 2, s.reg m, [n], 0, []),
      (.movWLoadPostInc m n, 2, s.reg m, [n, m], 0, []),
      (.movWLoadIdx m n, 2, s.eaIndexed m, [n], 0, []),
      (.movWLoadGbr d8, 2, s.eaGbr d8 1, [0], 0, []),
      (.movWLoadPreDec m, 2, s.reg m - 2, [m, 0], 0, []),
      (.movWLoadDisp12 m n d12, 2, s.eaDisp m d12 1, [n], 0, []),
      (.movWLoadDisp4 m d4, 2, s.eaDisp m d4 1, [0], 0, []),
      (.movLLoad m n, 4, s.reg m, [n], 0, []),
      (.movLLoadPostInc m n, 4, s.reg m, [n, m], 0, []),
      (.movLLoadIdx m n, 4, s.eaIndexed m, [n], 0, []),
      (.movLLoadGbr d8, 4, s.eaGbr d8 2, [0], 0, []),
      (.movLLoadPreDec m, 4, s.reg m - 4, [m, 0], 0, []),
      (.movLLoadDisp12 m n d12, 4, s.eaDisp m d12 2, [n], 0, []),
      (.movLLoadDisp4 m n d4, 4, s.eaDisp m d4 2, [n], 0, []),
      (.movuBLoadDisp12 m n d12, 1, s.eaDisp m d12 0, [n], 0, []),
      (.movuWLoadDisp12 m n d12, 2, s.eaDisp m d12 1, [n], 0, []),
      (.ldcLGbr m, 4, s.reg m, [m], 0, [.gbr]),
      (.ldcLVbr m, 4, s.reg m, [m], 0, [.vbr]),
      (.ldsLMach m, 4, s.reg m, [m], 0, [.mach]),
      (.ldsLMacl m, 4, s.reg m, [m], 0, [.macl]),
      (.ldsLPr m, 4, s.reg m, [m], 0, [.pr]),
      (.ldcLSr m, 4, s.reg m, [m], 0xFFFFFFFF, []),
      (.tstBGbr i8, 1, s.eaGbrIndexed, [], 1, []),
      (.bandB n i3 d12, 1, s.eaDisp n d12 0, [], 1, []),
      (.bandnotB n i3 d12, 1, s.eaDisp n d12 0, [], 1, []),
      (.borB n i3 d12, 1, s.eaDisp n d12 0, [], 1, []),
      (.bornotB n i3 d12, 1, s.eaDisp n d12 0, [], 1, []),
      (.bxorB n i3 d12, 1, s.eaDisp n d12 0, [], 1, []),
      (.bldB n i3 d12, 1, s.eaDisp n d12 0, [], 1, []),
      (.bldnotB n i3 d12, 1, s.eaDisp n d12 0, [], 1, [])] :
      List (Instr × Nat × Word × List GReg × Word × List Special)),
      s.canAccess p.2.1 p.2.2.1 = true → exec p.1 s = .next t →
      SameBut s t p.2.2.2.1 [] p.2.2.2.2.1 p.2.2.2.2.2 ∧ SameMemory s t) ∧
    (s.fpuReady = true → ∀ p ∈ ([
      (.fmovSLoad m n, 4, s.reg m, [], [n], []),
      (.fmovSLoadPostInc m n, 4, s.reg m, [m], [n], []),
      (.fmovSLoadIdx m n, 4, s.eaIndexed m, [], [n], []),
      (.fmovSLoadDisp12 m n d12, 4, s.eaDisp m d12 2, [], [n], []),
      (.fmovDLoad m n, 8, s.reg m, [], [pairHigh n, pairLow n], []),
      (.fmovDLoadPostInc m n, 8, s.reg m, [m], [pairHigh n, pairLow n], []),
      (.fmovDLoadIdx m n, 8, s.eaIndexed m, [], [pairHigh n, pairLow n], []),
      (.fmovDLoadDisp12 m n d12, 8, s.eaDisp m d12 3, [], [pairHigh n, pairLow n], []),
      (.ldsLFpul m, 4, s.reg m, [m], [], [.fpul]),
      (.ldsLFpscr m, 4, s.reg m, [m], [], [.fpscr])] :
      List (Instr × Nat × Word × List GReg × List FReg × List Special)),
      s.canAccess p.2.1 p.2.2.1 = true → exec p.1 s = .next t →
      SameBut s t p.2.2.2.1 p.2.2.2.2.1 0 p.2.2.2.2.2 ∧ SameMemory s t)

/-- What the storing instructions leave unchanged, and where they store. Basis: R200, R361, R450, R560, R601, R92. -/
def Obligations.store_frame : Prop :=
  ∀ (m n : GReg) (i3 : BitVec 3) (i8 : BitVec 8) (d4 : BitVec 4) (d8 : BitVec 8) (d12 : BitVec 12) (s t : State),
    s.held = false → s.slot = .none → Memory.wf s.mem →
    (∀ p ∈ ([
      (.movBStore m n, 1, s.reg n, [], 0),
      (.movBStorePreDec m n, 1, s.reg n - 1, [n], 0),
      (.movBStoreDisp4 n d4, 1, s.eaDisp n d4 0, [], 0),
      (.movBStoreIdx m n, 1, s.eaIndexed n, [], 0),
      (.movBStoreGbr d8, 1, s.eaGbr d8 0, [], 0),
      (.movBStorePostInc n, 1, s.reg n, [n], 0),
      (.movBStoreDisp12 m n d12, 1, s.eaDisp n d12 0, [], 0),
      (.movWStore m n, 2, s.reg n, [], 0),
      (.movWStorePreDec m n, 2, s.reg n - 2, [n], 0),
      (.movWStoreDisp4 n d4, 2, s.eaDisp n d4 1, [], 0),
      (.movWStoreIdx m n, 2, s.eaIndexed n, [], 0),
      (.movWStoreGbr d8, 2, s.eaGbr d8 1, [], 0),
      (.movWStorePostInc n, 2, s.reg n, [n], 0),
      (.movWStoreDisp12 m n d12, 2, s.eaDisp n d12 1, [], 0),
      (.movLStore m n, 4, s.reg n, [], 0),
      (.movLStorePreDec m n, 4, s.reg n - 4, [n], 0),
      (.movLStoreDisp4 m n d4, 4, s.eaDisp n d4 2, [], 0),
      (.movLStoreIdx m n, 4, s.eaIndexed n, [], 0),
      (.movLStoreGbr d8, 4, s.eaGbr d8 2, [], 0),
      (.movLStorePostInc n, 4, s.reg n, [n], 0),
      (.movLStoreDisp12 m n d12, 4, s.eaDisp n d12 2, [], 0),
      (.stcLSr n, 4, s.reg n - 4, [n], 0),
      (.stcLGbr n, 4, s.reg n - 4, [n], 0),
      (.stcLVbr n, 4, s.reg n - 4, [n], 0),
      (.stsLMach n, 4, s.reg n - 4, [n], 0),
      (.stsLMacl n, 4, s.reg n - 4, [n], 0),
      (.stsLPr n, 4, s.reg n - 4, [n], 0),
      (.andBGbr i8, 1, s.eaGbrIndexed, [], 0),
      (.orBGbr i8, 1, s.eaGbrIndexed, [], 0),
      (.xorBGbr i8, 1, s.eaGbrIndexed, [], 0),
      (.tasB n, 1, s.reg n, [], 1),
      (.bclrB n i3 d12, 1, s.eaDisp n d12 0, [], 0),
      (.bsetB n i3 d12, 1, s.eaDisp n d12 0, [], 0),
      (.bstB n i3 d12, 1, s.eaDisp n d12 0, [], 0)] :
      List (Instr × Nat × Word × List GReg × Word)),
      s.canAccess p.2.1 p.2.2.1 = true → exec p.1 s = .next t →
      SameBut s t p.2.2.2.1 [] p.2.2.2.2 [] ∧ SameMemoryOutside s t p.2.2.1 p.2.1) ∧
    (s.fpuReady = true → ∀ p ∈ ([
      (.fmovSStore m n, 4, s.reg n, [], 0),
      (.fmovSStorePreDec m n, 4, s.reg n - 4, [n], 0),
      (.fmovSStoreIdx m n, 4, s.eaIndexed n, [], 0),
      (.fmovSStoreDisp12 m n d12, 4, s.eaDisp n d12 2, [], 0),
      (.fmovDStore m n, 8, s.reg n, [], 0),
      (.fmovDStorePreDec m n, 8, s.reg n - 8, [n], 0),
      (.fmovDStoreIdx m n, 8, s.eaIndexed n, [], 0),
      (.fmovDStoreDisp12 m n d12, 8, s.eaDisp n d12 3, [], 0),
      (.stsLFpul n, 4, s.reg n - 4, [n], 0),
      (.stsLFpscr n, 4, s.reg n - 4, [n], 0)] :
      List (Instr × Nat × Word × List GReg × Word)),
      s.canAccess p.2.1 p.2.2.1 = true → exec p.1 s = .next t →
      SameBut s t p.2.2.2.1 [] p.2.2.2.2 [] ∧ SameMemoryOutside s t p.2.2.1 p.2.1)

/-- What the FPU instructions leave unchanged when they do not trap. Basis: R500, R560. -/
def Obligations.fpu_frame : Prop :=
  ∀ (m n : FReg) (s t : State), s.fpPlain →
    (s.fpscr.getLsbD 19 = false → ∀ p ∈ ([
      (.faddFR m n, [], [n], 0, [.fpscr]),
      (.fsubFR m n, [], [n], 0, [.fpscr]),
      (.fmulFR m n, [], [n], 0, [.fpscr]),
      (.fdivFR m n, [], [n], 0, [.fpscr]),
      (.fsqrtFR n, [], [n], 0, [.fpscr]),
      (.floatFR n, [], [n], 0, [.fpscr]),
      (.fmac m n, [], [n], 0, [.fpscr]),
      (.faddDR m n, [], [pairHigh n, pairLow n], 0, [.fpscr]),
      (.fsubDR m n, [], [pairHigh n, pairLow n], 0, [.fpscr]),
      (.fmulDR m n, [], [pairHigh n, pairLow n], 0, [.fpscr]),
      (.fdivDR m n, [], [pairHigh n, pairLow n], 0, [.fpscr]),
      (.fsqrtDR n, [], [pairHigh n, pairLow n], 0, [.fpscr]),
      (.floatDR n, [], [pairHigh n, pairLow n], 0, [.fpscr]),
      (.fcmpEqFR m n, [], [], 1, [.fpscr]),
      (.fcmpEqDR m n, [], [], 1, [.fpscr]),
      (.fcmpGtFR m n, [], [], 1, [.fpscr]),
      (.fcmpGtDR m n, [], [], 1, [.fpscr]),
      (.ftrcFR m, [], [], 0, [.fpul, .fpscr]),
      (.ftrcDR m, [], [], 0, [.fpul, .fpscr]),
      (.fabsFR n, [], [n], 0, []),
      (.fabsDR n, [], [n], 0, []),
      (.fnegFR n, [], [n], 0, []),
      (.fnegDR n, [], [n], 0, []),
      (.fmovFR m n, [], [n], 0, []),
      (.fsts n, [], [n], 0, []),
      (.fldi0 n, [], [n], 0, []),
      (.fldi1 n, [], [n], 0, []),
      (.fmovDR m n, [], [pairHigh n, pairLow n], 0, []),
      (.flds m, [], [], 0, [.fpul]),
      (.ldsFpul m, [], [], 0, [.fpul]),
      (.ldsFpscr m, [], [], 0, [.fpscr]),
      (.fschg, [], [], 0, [.fpscr]),
      (.stsFpul n, [n], [], 0, []),
      (.stsFpscr n, [n], [], 0, [])] :
      List (Instr × List GReg × List FReg × Word × List Special)),
      exec p.1 s = .next t → SameBut s t p.2.1 p.2.2.1 p.2.2.2.1 p.2.2.2.2 ∧ SameMemory s t) ∧
    (s.fpscr.getLsbD 19 = true → ∀ p ∈ ([
      (.faddFR m n, [], [n], 0, [.fpscr]),
      (.fsubFR m n, [], [n], 0, [.fpscr]),
      (.fmulFR m n, [], [n], 0, [.fpscr]),
      (.fdivFR m n, [], [n], 0, [.fpscr]),
      (.fsqrtFR n, [], [n], 0, [.fpscr]),
      (.floatFR n, [], [n], 0, [.fpscr]),
      (.faddDR m n, [], [pairHigh n, pairLow n], 0, [.fpscr]),
      (.fsubDR m n, [], [pairHigh n, pairLow n], 0, [.fpscr]),
      (.fmulDR m n, [], [pairHigh n, pairLow n], 0, [.fpscr]),
      (.fdivDR m n, [], [pairHigh n, pairLow n], 0, [.fpscr]),
      (.fsqrtDR n, [], [pairHigh n, pairLow n], 0, [.fpscr]),
      (.floatDR n, [], [pairHigh n, pairLow n], 0, [.fpscr]),
      (.fcmpEqFR m n, [], [], 1, [.fpscr]),
      (.fcmpEqDR m n, [], [], 1, [.fpscr]),
      (.fcmpGtFR m n, [], [], 1, [.fpscr]),
      (.fcmpGtDR m n, [], [], 1, [.fpscr]),
      (.ftrcFR m, [], [], 0, [.fpul, .fpscr]),
      (.ftrcDR m, [], [], 0, [.fpul, .fpscr]),
      (.fabsFR n, [], [n], 0, []),
      (.fabsDR n, [], [n], 0, []),
      (.fnegFR n, [], [n], 0, []),
      (.fnegDR n, [], [n], 0, []),
      (.fmovFR m n, [], [n], 0, []),
      (.fsts n, [], [n], 0, []),
      (.fmovDR m n, [], [pairHigh n, pairLow n], 0, []),
      (.flds m, [], [], 0, [.fpul]),
      (.ldsFpul m, [], [], 0, [.fpul]),
      (.ldsFpscr m, [], [], 0, [.fpscr]),
      (.stsFpul n, [n], [], 0, []),
      (.stsFpscr n, [n], [], 0, []),
      (.fcnvds m, [], [], 0, [.fpul, .fpscr]),
      (.fcnvsd n, [], [pairHigh n, pairLow n], 0, [.fpscr])] :
      List (Instr × List GReg × List FReg × Word × List Special)),
      exec p.1 s = .next t → SameBut s t p.2.1 p.2.2.1 p.2.2.2.1 p.2.2.2.2 ∧ SameMemory s t)

/-- Decode and encode agree: every instruction is read back from its bytes. Basis: R121, R123, R124, R125, R127,
  R129, 30_encoding.md. -/
def Obligations.decode_encode : Prop :=
  ∀ (md : FpMode) (i : Instr) (rest : List Byte), i.selectedBy md = true →
    decode md (unitBytes (encode i) ++ rest) = .instruction i rest

/-- Whatever the decoder reads as an instruction is that instruction's encoding. Basis: R127, R128, R129,
  30_encoding.md. -/
def Obligations.encode_decode : Prop :=
  ∀ (md : FpMode) (bs : List Byte) (i : Instr) (rest : List Byte), decode md bs = .instruction i rest →
    bs = unitBytes (encode i) ++ rest ∧ i.selectedBy md = true

/-- Words written out from the encoding tables decode to their instructions. Basis: R126, R127, R128, R140,
  30_encoding.md. -/
def Obligations.sample_words : Prop :=
  decode .atReset [0xE1, 0x80] = .instruction (.movImm 1 0x80) [] ∧
  decode .atReset [0x31, 0x0C] = .instruction (.add 0 1) [] ∧
  decode .atReset [0xC9, 0x0F] = .instruction (.andImm 0x0F) [] ∧
  decode .atReset [0x42, 0x1C] = .instruction (.shad 1 2) [] ∧
  decode .atReset [0x8B, 0xFE] = .instruction (.bf 0xFE) [] ∧
  decode .atReset [0x00, 0x2B] = .instruction .rte [] ∧
  decode .atReset [0x30, 0x59, 0x40, 0x02] = .instruction (.bandB 0 5 2) [] ∧
  decode .atReset [0x00, 0x70, 0xFF, 0xFF] = .instruction (.movi20 0 0x7FFFF) [] ∧
  decode .atReset [0xF1, 0x00] = .instruction (.faddFR 0 1) [] ∧
  decode ⟨true, false⟩ [0xF2, 0x40] = .instruction (.faddDR 4 2) [] ∧
  decode ⟨false, true⟩ [0x32, 0x01, 0x30, 0x02] = .instruction (.fmovDStoreDisp12 0 2 2) [] ∧
  decode .atReset [0x01, 0x08] = .undefined16 0x0108 ∧
  decode .atReset [0x30, 0xD9, 0x00, 0x00] = .undefined16 0x30D9 ∧
  decode .atReset [0x30, 0x59, 0x70, 0x02] = .undefined32 0x3059 0x7002

/-- A step runs the instruction that the bytes at PC decode to. `u` is the state after what the environment does
  before the step (log 29). The list of inputs is the model's form of the platform's signals (log 11), the slot as a
    step of its own is log 10. Basis: R16, R90, R421, R440, R703. -/
def Obligations.step_runs_decoded_instruction : Prop :=
  ∀ (s u : State) (i : Instr) (rest : List Byte), s.resetSignal = none → u = s.environment → u.canFetch u.pc = true →
    (u.longAtPc = true → u.canFetch (u.pc + 2) = true) → decode u.fpMode (u.unitAt u.pc ++ u.unitAt (u.pc + 2)) =
      .instruction i rest →
    (s.outside = [] → u = s) ∧
    (u.inputs = [] → (∀ target, u.slot ≠ .taken target) → u.held = false → u.power = .run → step s = exec i u) ∧
    (∀ js, u.inputs = ⟨false, false, none⟩ :: js → (∀ target, u.slot ≠ .taken target) → u.held = false → u.power =
      .run →
      step s = exec i { u with inputs := js }) ∧
    (∀ target, u.slot = .taken target → step s = exec i u)

/-- Every step keeps the invariant of the state. Basis: R8, R28, R45, R46, R47, R48, R780. -/
def Obligations.step_keeps_invariant : Prop :=
  ∀ s t : State, s.Inv → step s = .next t → t.Inv

/-- The invariant holds right after reset. Basis: R57, R801, R803. -/
def Obligations.reset_has_invariant : Prop :=
  State.reset.Inv

/-- Which instructions may change VBR, TBR, each SR field and the power state. Basis: R28, R29, R30, R31, R33, R34,
  R36, R37, R718, R770. -/
def Obligations.control_registers_writers : Prop :=
  ∀ (i : Instr) (s t : State), exec i s = .next t →
    SamePlatform s t ∧ t.banks.length = s.banks.length ∧
    ((∀ m, i ≠ .ldcVbr m ∧ i ≠ .ldcLVbr m) → t.vbr = s.vbr) ∧
    ((∀ m, i ≠ .ldcTbr m) → t.tbr = s.tbr) ∧
    ((∀ m, i ≠ .ldcSr m ∧ i ≠ .ldcLSr m) → i ≠ .rte →
      t.sBit = s.sBit ∧ t.bo = s.bo ∧ t.imask = s.imask ∧
      (i.writesT = false → t.t = s.t) ∧
      ((∀ m n, i ≠ .div0s m n ∧ i ≠ .div1 m n) → i ≠ .div0u → t.q = s.q) ∧
      ((∀ m n, i ≠ .div0s m n) → i ≠ .div0u → t.m = s.m) ∧
      ((∀ n, i ≠ .clipsB n ∧ i ≠ .clipsW n ∧ i ≠ .clipuB n ∧ i ≠ .clipuW n) → t.cs = s.cs)) ∧
    (s.power = .run → i ≠ .sleep → t.power = .run)

/-- Which instructions may change FPSCR, and that its Flag bits are sticky. Basis: R44, R45, R505, R532, R583. -/
def Obligations.fpscr_writers : Prop :=
  ∀ (i : Instr) (s t : State), exec i s = .next t → (∀ m, i ≠ .ldsFpscr m ∧ i ≠ .ldsLFpscr m) →
    s.fpscr &&& 0x0000007C &&& ~~~t.fpscr = 0 ∧
    t.fpscr &&& 0xFFEC0F83 = s.fpscr &&& 0xFFEC0F83 ∧
    (i ≠ .fschg → t.fpscr.getLsbD 20 = s.fpscr.getLsbD 20) ∧
    (i ≠ .fschg → i.fpArithmetic = false → t.fpscr = s.fpscr)

/-- Illegal in a slot, without an FPU, without banks, or in the wrong precision. RTS/N in a slot and the check after
  an untaken branch are the spec's decisions D14 and D15 (log 26, log 10), the wrong precision D20 (log 20). Basis:
    R141, R142, R423, R506, R732. -/
def Obligations.illegal_codes : Prop :=
  (∀ (i : Instr) (s : State) (target : Word), s.slot = .taken target → i.slotIllegal = true →
    exec i s = .next (s.raise .slotIllegal target)) ∧
  (∀ (i : Instr) (s : State), s.slot = .untaken → i.slotIllegal = true →
    exec i s = .next (s.raise .slotIllegal (s.pc + BitVec.ofNat 32 (2 * (encode i).length)))) ∧
  (∀ (i : Instr) (s : State), (i.usesFpu = true ∧ s.fpuReady = false) ∨ (i.usesBanks = true ∧ s.cfg.hasBanks = false)
    ∨
      (s.fpuReady = true ∧ i.wrongPrecision (s.fpscr.getLsbD 19) = true) →
    (s.slot = .none → exec i s = .next (s.raise .generalIllegal s.pc)) ∧
    (∀ target, s.slot = .taken target → exec i s = .next (s.raise .slotIllegal target)) ∧
    (s.slot = .untaken → exec i s =
      .next (s.raise .slotIllegal (s.pc + BitVec.ofNat 32 (2 * (encode i).length)))))

/-- A step at an undefined code or at an address that cannot be fetched. `u` is the state after what the environment
  does before the step (log 29). The model's choices: the check after an untaken branch (D15, log 10), the length 4
    of an undefined 32-bit code and the fetch of its second code unit (D12, log 27), the fetch error in the slot of a
      taken branch (D24, log 9). Basis: R90, R126, R140, R724, R732, R750. -/
def Obligations.undefined_codes_and_fetch_errors : Prop :=
  ∀ s u : State, s.resetSignal = none → u = s.environment → u.inputs = [] → u.held = false → u.power = .run →
    (∀ (len : Word), u.canFetch u.pc = true →
      ((∃ w, decode u.fpMode (u.unitAt u.pc ++ u.unitAt (u.pc + 2)) = .undefined16 w) ∧ u.longAtPc = false ∧ len = 2)
        ∨
      ((∃ v w, decode u.fpMode (u.unitAt u.pc ++ u.unitAt (u.pc + 2)) = .undefined32 v w) ∧ u.canFetch (u.pc + 2) =
        true ∧ len = 4) →
      (u.slot = .none → step s = .next (u.raise .generalIllegal u.pc)) ∧
      (∀ target, u.slot = .taken target → step s = .next (u.raise .slotIllegal target)) ∧
      (u.slot = .untaken → step s = .next (u.raise .slotIllegal (u.pc + len)))) ∧
    (u.canFetch u.pc = false ∨ (u.longAtPc = true ∧ u.canFetch (u.pc + 2) = false) →
      ((∀ target, u.slot ≠ .taken target) → step s = .next (u.raise .cpuAddressError u.pc)) ∧
      (∀ target, u.slot = .taken target → step s = .next (u.raise .cpuAddressError target)))

/-- Exception entry: vector, stack, saved SR and PC, IMASK, and nothing else. The last clause is an entry whose
  pushes fault (R15 not a multiple of 4): the address error is entered at once after it. What the faulting writes
    leave behind is open (D24, log 9). Basis: R711, R712, R716, R717, R718, R727, R812, 60_exceptions.md. -/
def Obligations.exception_entry : Prop :=
  (∀ (s : State) (e : Exc) (saved : Word) (level : Option (BitVec 4)) (t : State), s.entryAllowed e → Memory.wf s.mem
    →
    s.plain (s.reg 15 - 8) 8 → t = s.enter e saved level .nowhere →
    t.pc = s.peek32 (s.vbr + e.vector * 4) ∧ t.reg 15 = s.reg 15 - 8 ∧
        t.peek32 (s.reg 15 - 4) = s.sr ∧ t.peek32 (s.reg 15 - 8) = saved ∧
    SameStatus s t (if level.isSome then 0xF0 else 0) ∧ (∀ l, level = some l → t.imask = l) ∧
    t.slot = .none ∧ t.power = .run ∧ t.held = (if e = .cpuAddressError then false else s.held) ∧
    SameMemoryOutside s t (s.reg 15 - 8) 8 ∧ SameRegs s t [15] ∧ SameBanks s t ∧ SameFregs s t [] ∧ SameSpecials s t
      [] ∧ SamePlatform s t) ∧
  (Exc.vector .generalIllegal = 4 ∧ Exc.vector .ramError = 5 ∧ Exc.vector .slotIllegal = 6 ∧
    Exc.vector .cpuAddressError = 9 ∧ Exc.vector .dmacAddressError = 10 ∧ Exc.vector (.interrupt IntReq.nmi.vector) =
      11 ∧
    Exc.vector (.interrupt IntReq.userBreak.vector) = 12 ∧ Exc.vector .fpu = 13 ∧
    Exc.vector (.interrupt IntReq.hudi.vector) = 14 ∧ Exc.vector .bankOverflow = 15 ∧ Exc.vector .bankUnderflow = 16 ∧
    Exc.vector .divideByZero = 17 ∧ Exc.vector .divideOverflow = 18 ∧ (∀ v, Exc.vector (.trap v) = v.setWidth 32) ∧
    (∀ l v, Exc.vector (.interrupt (IntReq.irq l v).vector) = BitVec.ofNat 32 (64 + v.val) ∧
      Exc.vector (.interrupt (IntReq.peripheral l v).vector) = BitVec.ofNat 32 (64 + v.val))) ∧
  (∀ (s : State) (e : Exc) (saved : Word) (t : State), s.reg 15 &&& 3 ≠ 0 → s.cfg.dataForbidden = [] → Memory.wf
    s.mem →
    s.plain (alignDown (s.reg 15 - 16)) 20 → s.vbr &&& 3 = 0 → (∀ (k j : Nat), k < 4 → j < 20 → s.vbr + 36 +
      BitVec.ofNat 32 k ≠ alignDown (s.reg 15 - 16) + BitVec.ofNat 32 j) →
    t = s.raise e saved →
    t.pc = s.peek32 (s.vbr + 36) ∧ t.reg 15 = s.reg 15 - (if e = .cpuAddressError then 8 else 16) ∧
    t.sr = s.sr ∧ t.held = false ∧ t.slot = .none ∧ SameMemoryOutside s t (alignDown (s.reg 15 - 16)) 20 ∧
    SameRegs s t [15] ∧ SameBanks s t ∧ SameFregs s t [] ∧ SameSpecials s t [] ∧ SamePlatform s t)

/-- RTE returns to the saved PC with the saved SR and the old stack pointer. RTE and its slot as two steps are log
  10; that nothing comes between them from the platform is the premise on `inputs` and `outside` (log 11, log 29).
    Basis: R470, R716, R768, R786, 45_system_control.md. -/
def Obligations.rte_undoes_entry : Prop :=
  ∀ (s : State) (e : Exc) (saved : Word) (level : Option (BitVec 4)) (t u : State), s.Inv → s.entryAllowed e →
    s.plain (s.reg 15 - 8) 8 → t = s.enter e saved level .nowhere →
    u.reg 15 = t.reg 15 → u.cfg = t.cfg → u.peek32 (t.reg 15) = t.peek32 (t.reg 15) →
    u.peek32 (t.reg 15 + 4) = t.peek32 (t.reg 15 + 4) → u.slot = .none → u.held = false → u.power = .run → u.inputs =
      [] → u.outside = [] →
    u.canFetch u.pc = true → u.canFetch (u.pc + 2) = true → u.unitAt u.pc = [0x00, 0x2B] →
    u.unitAt (u.pc + 2) = [0x00, 0x09] →
    ∃ v w, step u = .next v ∧ step v = .next w ∧ w.pc = saved ∧ w.sr = s.sr ∧ w.reg 15 = s.reg 15 ∧ w.slot = .none ∧
      SameRegs u w [15] ∧ SameFregs u w [] ∧ SameSpecials u w [] ∧ SameBanks u w ∧ SameMemory u w

/-- What an instruction does when its data access faults, and where the model stops. The completion of a faulting
  instruction is the spec's decision D17 (log 8); the fault and the refusal are the model's (log 14, log 13). Basis:
    R212, R256, R343, R377, R436, R486, R487, R491, R560, R601, R725, R801. -/
def Obligations.faulting_accesses_and_stops : Prop :=
  (∀ (m n : GReg) (d4 : BitVec 4) (d8 : BitVec 8) (d12 : BitVec 12) (s : State),
    (∀ p ∈ ([(.movWPcRel n d8, 2, s.eaPcWord d8, n),
      (.movLPcRel n d8, 4, s.eaPcLong d8, n),
      (.movBLoad m n, 1, s.reg m, n),
      (.movBLoadIdx m n, 1, s.eaIndexed m, n),
      (.movBLoadGbr d8, 1, s.eaGbr d8 0, 0),
      (.movBLoadDisp4 m d4, 1, s.eaDisp m d4 0, 0),
      (.movWLoad m n, 2, s.reg m, n),
      (.movWLoadIdx m n, 2, s.eaIndexed m, n),
      (.movWLoadGbr d8, 2, s.eaGbr d8 1, 0),
      (.movWLoadDisp4 m d4, 2, s.eaDisp m d4 1, 0),
      (.movLLoad m n, 4, s.reg m, n),
      (.movLLoadIdx m n, 4, s.eaIndexed m, n),
      (.movLLoadGbr d8, 4, s.eaGbr d8 2, 0),
      (.movLLoadDisp4 m n d4, 4, s.eaDisp m d4 2, n)] :
      List (Instr × Nat × Word × GReg)),
      s.canAccess p.2.1 p.2.2.1 = false →
      ∃ v, exec p.1 s = .next ((({ s.setReg p.2.2.2 v with freeCount := s.freeCount + 1 } : State).after 2).raise
        .cpuAddressError (s.following 2))) ∧
    (s.slot = .none → ∀ p ∈ ([(.movBLoadDisp12 m n d12, 1, s.eaDisp m d12 0, n),
      (.movWLoadDisp12 m n d12, 2, s.eaDisp m d12 1, n),
      (.movLLoadDisp12 m n d12, 4, s.eaDisp m d12 2, n),
      (.movuBLoadDisp12 m n d12, 1, s.eaDisp m d12 0, n),
      (.movuWLoadDisp12 m n d12, 2, s.eaDisp m d12 1, n)] :
      List (Instr × Nat × Word × GReg)),
      s.canAccess p.2.1 p.2.2.1 = false →
      ∃ v, exec p.1 s = .next ((({ s.setReg p.2.2.2 v with freeCount := s.freeCount + 1 } : State).after 4).raise
        .cpuAddressError (s.pc + 4))) ∧
    (∀ p ∈ ([(.movBLoadPostInc m n, 1),
      (.movWLoadPostInc m n, 2),
      (.movLLoadPostInc m n, 4)] :
      List (Instr × Nat)),
      s.canAccess p.2 (s.reg m) = false → ∃ v, exec p.1 s = .next ((({ (if n = m then s.setReg n v else (s.setReg n
        v).setReg m (s.reg m + BitVec.ofNat 32 p.2)) with freeCount := s.freeCount + 1 } : State).after 2).raise
          .cpuAddressError (s.following 2))) ∧
    (∀ p ∈ ([(.movBLoadPreDec m, 1),
      (.movWLoadPreDec m, 2),
      (.movLLoadPreDec m, 4)] :
      List (Instr × Nat)),
      s.canAccess p.2 (s.reg m - BitVec.ofNat 32 p.2) = false → ∃ v, exec p.1 s =
        .next ((({ (s.setReg m (s.reg m - BitVec.ofNat 32 p.2)).setReg 0 v with freeCount := s.freeCount + 1 } :
          State).after 2).raise .cpuAddressError (s.following 2)))) ∧
  (∀ (m : GReg) (s : State), s.canAccess 4 (s.reg m) = false →
    (∀ p ∈ ([(.ldcLSr m, fun v => { s with sr := v &&& 0x000063F3 }),
      (.ldcLGbr m, fun v => { s with gbr := v }),
      (.ldcLVbr m, fun v => { s with vbr := v }),
      (.ldsLMach m, fun v => { s with mach := v }),
      (.ldsLMacl m, fun v => { s with macl := v }),
      (.ldsLPr m, fun v => { s with pr := v })] :
      List (Instr × (Word → State))),
      ∃ v, exec p.1 s = .next ((({ (p.2 v).setReg m (s.reg m + 4) with freeCount := s.freeCount + 1 } : State).after
        2).raise .cpuAddressError (s.following 2))) ∧
    (s.fpuReady = true → ∀ p ∈ ([(.ldsLFpul m, fun v => { s with fpul := v }),
      (.ldsLFpscr m, fun v => { s with fpscr := v &&& s.cfg.fpscrMask })] :
      List (Instr × (Word → State))),
      ∃ v, exec p.1 s = .next ((({ (p.2 v).setReg m (s.reg m + 4) with freeCount := s.freeCount + 1 } : State).after
        2).raise .cpuAddressError (s.following 2)))) ∧
  (∀ (m n : GReg) (i : BitVec 3) (d4 : BitVec 4) (d8 : BitVec 8) (d12 : BitVec 12) (s : State), (
    ∀ p ∈ ([(.movBStore m n, 1, s.reg n),
      (.movBStoreIdx m n, 1, s.eaIndexed n),
      (.movBStoreGbr d8, 1, s.eaGbr d8 0),
      (.movBStoreDisp4 n d4, 1, s.eaDisp n d4 0),
      (.movWStore m n, 2, s.reg n),
      (.movWStoreIdx m n, 2, s.eaIndexed n),
      (.movWStoreGbr d8, 2, s.eaGbr d8 1),
      (.movWStoreDisp4 n d4, 2, s.eaDisp n d4 1),
      (.movLStore m n, 4, s.reg n),
      (.movLStoreIdx m n, 4, s.eaIndexed n),
      (.movLStoreGbr d8, 4, s.eaGbr d8 2),
      (.movLStoreDisp4 m n d4, 4, s.eaDisp n d4 2),
      (.tasB n, 1, s.reg n)] :
      List (Instr × Nat × Word)),
      s.canAccess p.2.1 p.2.2 = false → exec p.1 s = .next ((s.after 2).raise .cpuAddressError (s.following 2))) ∧
    (s.slot = .none → ∀ p ∈ ([(.movBStoreDisp12 m n d12, 1, s.eaDisp n d12 0),
      (.movWStoreDisp12 m n d12, 2, s.eaDisp n d12 1),
      (.movLStoreDisp12 m n d12, 4, s.eaDisp n d12 2),
      (.bandB n i d12, 1, s.eaDisp n d12 0),
      (.bandnotB n i d12, 1, s.eaDisp n d12 0),
      (.borB n i d12, 1, s.eaDisp n d12 0),
      (.bornotB n i d12, 1, s.eaDisp n d12 0),
      (.bxorB n i d12, 1, s.eaDisp n d12 0),
      (.bldB n i d12, 1, s.eaDisp n d12 0),
      (.bldnotB n i d12, 1, s.eaDisp n d12 0),
      (.bclrB n i d12, 1, s.eaDisp n d12 0),
      (.bsetB n i d12, 1, s.eaDisp n d12 0),
      (.bstB n i d12, 1, s.eaDisp n d12 0)] :
      List (Instr × Nat × Word)),
      s.canAccess p.2.1 p.2.2 = false → exec p.1 s = .next ((s.after 4).raise .cpuAddressError (s.pc + 4))) ∧
    (∀ p ∈ ([(.movBStorePreDec m n, 1),
      (.movWStorePreDec m n, 2),
      (.movLStorePreDec m n, 4),
      (.stcLSr n, 4),
      (.stcLGbr n, 4),
      (.stcLVbr n, 4),
      (.stsLMach n, 4),
      (.stsLMacl n, 4),
      (.stsLPr n, 4)] :
      List (Instr × Nat)),
      s.canAccess p.2 (s.reg n - BitVec.ofNat 32 p.2) = false → exec p.1 s =
        .next (((s.setReg n (s.reg n - BitVec.ofNat 32 p.2)).after 2).raise .cpuAddressError (s.following 2))) ∧
    (∀ p ∈ ([(.movBStorePostInc n, 1),
      (.movWStorePostInc n, 2),
      (.movLStorePostInc n, 4)] :
      List (Instr × Nat)),
      s.canAccess p.2 (s.reg n) = false → exec p.1 s =
        .next (((s.setReg n (s.reg n + BitVec.ofNat 32 p.2)).after 2).raise .cpuAddressError (s.following 2)))) ∧
  (∀ (i : BitVec 8) (s : State), s.canAccess 1 (s.eaGbrIndexed) = false → ∀ j ∈ [Instr.andBGbr i, .orBGbr i, .xorBGbr
    i, .tstBGbr i],
    exec j s = .next ((s.after 2).raise .cpuAddressError (s.following 2))) ∧
  (∀ (m n : GReg) (s : State),
    (s.canAccess 4 (s.reg n) = false ∨ s.canAccess 4 (s.macAddr m n 4) = false →
      exec (.macL m n) s = .next (((s.macAdvance m n 4).after 2).raise .cpuAddressError (s.following 2))) ∧
    (s.canAccess 2 (s.reg n) = false ∨ s.canAccess 2 (s.macAddr m n 2) = false →
      exec (.macW m n) s = .next (((s.macAdvance m n 2).after 2).raise .cpuAddressError (s.following 2)))) ∧
  (∀ (m : GReg) (n : FReg) (d : BitVec 12) (s : State), s.fpuReady = true →
    (∀ p ∈ ([(.fmovSLoad m n, s.reg m), (.fmovSLoadIdx m n, s.eaIndexed m)] : List (Instr × Word)),
      s.canAccess 4 p.2 = false → ∃ v, exec p.1 s = .next ((({ s.setFreg n v with freeCount := s.freeCount + 1 } :
        State).after 2).raise .cpuAddressError (s.following 2))) ∧
    (s.canAccess 4 (s.reg m) = false → ∃ v, exec (.fmovSLoadPostInc m n) s =
      .next ((({ (s.setFreg n v).setReg m (s.reg m + 4) with freeCount := s.freeCount + 1 } : State).after 2).raise
        .cpuAddressError (s.following 2))) ∧
    (s.slot = .none → s.canAccess 4 (s.eaDisp m d 2) = false → ∃ v, exec (.fmovSLoadDisp12 m n d) s =
      .next ((({ s.setFreg n v with freeCount := s.freeCount + 1 } : State).after 4).raise .cpuAddressError (s.pc +
        4)))) ∧
  (∀ (m : GReg) (n : DReg) (d : BitVec 12) (s : State), s.fpuReady = true →
    (∀ p ∈ ([(.fmovDLoad m n, s.reg m), (.fmovDLoadIdx m n, s.eaIndexed m)] : List (Instr × Word)),
      s.canAccess 8 p.2 = false → ∃ v, exec p.1 s = .next ((({ s.setDreg n v with freeCount := s.freeCount + 2 } :
        State).after 2).raise .cpuAddressError (s.following 2))) ∧
    (s.canAccess 8 (s.reg m) = false → ∃ v, exec (.fmovDLoadPostInc m n) s =
      .next ((({ (s.setDreg n v).setReg m (s.reg m + 8) with freeCount := s.freeCount + 2 } : State).after 2).raise
        .cpuAddressError (s.following 2))) ∧
    (s.slot = .none → s.canAccess 8 (s.eaDisp m d 3) = false → ∃ v, exec (.fmovDLoadDisp12 m n d) s =
      .next ((({ s.setDreg n v with freeCount := s.freeCount + 2 } : State).after 4).raise .cpuAddressError (s.pc +
        4)))) ∧
  (∀ (n : GReg) (m : BitVec 4) (d12 : BitVec 12) (s : State), s.fpuReady = true → (
    ∀ p ∈ ([(.fmovSStore m n, 4, s.reg n),
      (.fmovSStoreIdx m n, 4, s.eaIndexed n),
      (.fmovDStore m n, 8, s.reg n),
      (.fmovDStoreIdx m n, 8, s.eaIndexed n)] :
      List (Instr × Nat × Word)),
      s.canAccess p.2.1 p.2.2 = false → exec p.1 s = .next ((s.after 2).raise .cpuAddressError (s.following 2))) ∧
    (s.slot = .none → ∀ p ∈ ([(.fmovSStoreDisp12 m n d12, 4, s.eaDisp n d12 2),
      (.fmovDStoreDisp12 m n d12, 8, s.eaDisp n d12 3)] :
      List (Instr × Nat × Word)),
      s.canAccess p.2.1 p.2.2 = false → exec p.1 s = .next ((s.after 4).raise .cpuAddressError (s.pc + 4))) ∧
    (∀ p ∈ ([(.stsLFpul n, 4),
      (.stsLFpscr n, 4),
      (.fmovSStorePreDec m n, 4),
      (.fmovDStorePreDec m n, 8)] :
      List (Instr × Nat)),
      s.canAccess p.2 (s.reg n - BitVec.ofNat 32 p.2) = false → exec p.1 s =
        .next (((s.setReg n (s.reg n - BitVec.ofNat 32 p.2)).after 2).raise .cpuAddressError (s.following 2)))) ∧
  (∀ (d : BitVec 8) (s : State), s.slot = .none → s.canAccess 4 (s.tbr + d.setWidth 32 * 4) = false →
    exec (.jsrNTbr d) s = .next ((({ s with pr := s.pc + 2 } : State).after 2).raise .cpuAddressError (s.pc + 2))) ∧
  (∀ s : State, s.slot = .none → s.canAccess 4 (s.reg 15) = false ∨ s.canAccess 4 (s.reg 15 + 4) = false →
    ∃ x y c, (s.canAccess 4 (s.reg 15) = true → x = s.peek32 (s.reg 15)) ∧
      (s.canAccess 4 (s.reg 15 + 4) = true → y = s.peek32 (s.reg 15 + 4)) ∧
      exec .rte s = .next { s.setReg 15 (s.reg 15 + 8) with
        sr := y &&& 0x000063F3, pc := s.pc + 2, slot := .taken x, held := true, freeCount := c }) ∧
  (∀ s : State, s.slot = .none → s.cfg.hasBanks = true → s.bo = true →
    (∃ j : Nat, j < 19 ∧ s.canAccess 4 (s.reg 15 + BitVec.ofNat 32 (4 * j)) = false) →
    ∃ t, exec .resbank s = .next (t.raise .cpuAddressError (s.pc + 2)) ∧ t.reg 15 = s.reg 15 + 76 ∧
      (∀ k : Nat, k < 15 → s.canAccess 4 (s.reg 15 + BitVec.ofNat 32 (4 * k)) = true → t.reg (BitVec.ofNat 4 k) =
        s.peek32 (s.reg 15 + BitVec.ofNat 32 (4 * k))) ∧
      (s.canAccess 4 (s.reg 15 + 60) = true → t.pr = s.peek32 (s.reg 15 + 60)) ∧ (s.canAccess 4 (s.reg 15 + 64) =
        true → t.gbr = s.peek32 (s.reg 15 + 64)) ∧
      (s.canAccess 4 (s.reg 15 + 68) = true → t.mach = s.peek32 (s.reg 15 + 68)) ∧ (s.canAccess 4 (s.reg 15 + 72) =
        true → t.macl = s.peek32 (s.reg 15 + 72)) ∧
      SameSpecials s t [.pr, .gbr, .mach, .macl] ∧ SameMemory s t ∧ SameFregs s t [] ∧ t.sr = s.sr ∧ SameBanks s t ∧
      SamePlatform s t ∧ t.pc = s.pc + 2 ∧ t.slot = .none ∧ t.power = s.power) ∧
  (∀ (m : GReg) (s : State), Memory.wf s.mem → s.plain (s.reg 15 - 64) 64 →
    (∃ j : Nat, j ≤ m.toNat ∧ s.canAccess 4 (s.reg 15 - BitVec.ofNat 32 (4 * (m.toNat - j + 1))) = false) →
    ∃ t, exec (.movmlPush m) s = .next (t.raise .cpuAddressError (s.following 2)) ∧ t.reg 15 = s.reg 15 -
      BitVec.ofNat 32 (4 * (m.toNat + 1)) ∧
      (∀ j : Nat, j ≤ m.toNat → s.canAccess 4 (s.reg 15 - BitVec.ofNat 32 (4 * (m.toNat - j + 1))) = true →
        t.peek32 (s.reg 15 - BitVec.ofNat 32 (4 * (m.toNat - j + 1))) = if j = 15 then s.pr else s.reg (BitVec.ofNat
          4 j)) ∧
      (∀ a, (∀ j k : Nat, j ≤ m.toNat → k < 4 → s.canAccess 4 (s.reg 15 - BitVec.ofNat 32 (4 * (m.toNat - j + 1))) =
        true →
        a ≠ s.reg 15 - BitVec.ofNat 32 (4 * (m.toNat - j + 1)) + BitVec.ofNat 32 k) → t.peek a = s.peek a) ∧
      SameRegs s t [15] ∧ SameSpecials s t [] ∧ SameFregs s t [] ∧ SameStatus s t 0 ∧ SameBanks s t ∧ SamePlatform s
        t ∧ t.pc = (s.after 2).pc ∧ t.slot = .none ∧ t.power = s.power) ∧
  (∀ (m : GReg) (s : State), Memory.wf s.mem → s.plain (s.reg 15 - 64) 64 →
    (∃ j : Nat, m.toNat ≤ j ∧ j < 16 ∧ s.canAccess 4 (s.reg 15 - BitVec.ofNat 32 (4 * (16 - j))) = false) →
    ∃ t, exec (.movmuPush m) s = .next (t.raise .cpuAddressError (s.following 2)) ∧ t.reg 15 = s.reg 15 -
      BitVec.ofNat 32 (4 * (16 - m.toNat)) ∧
      (∀ j : Nat, m.toNat ≤ j ∧ j < 16 → s.canAccess 4 (s.reg 15 - BitVec.ofNat 32 (4 * (16 - j))) = true →
        t.peek32 (s.reg 15 - BitVec.ofNat 32 (4 * (16 - j))) = if j = 15 then s.pr else s.reg (BitVec.ofNat 4 j)) ∧
      (∀ a, (∀ j k : Nat, m.toNat ≤ j ∧ j < 16 → k < 4 → s.canAccess 4 (s.reg 15 - BitVec.ofNat 32 (4 * (16 - j))) =
        true →
        a ≠ s.reg 15 - BitVec.ofNat 32 (4 * (16 - j)) + BitVec.ofNat 32 k) → t.peek a = s.peek a) ∧
      SameRegs s t [15] ∧ SameSpecials s t [] ∧ SameFregs s t [] ∧ SameStatus s t 0 ∧ SameBanks s t ∧ SamePlatform s
        t ∧ t.pc = (s.after 2).pc ∧ t.slot = .none ∧ t.power = s.power) ∧
  (∀ (n : GReg) (s : State), (∃ j : Nat, j ≤ n.toNat ∧ j < 16 ∧ s.canAccess 4 (s.reg 15 + BitVec.ofNat 32 (4 * j)) =
    false) →
    ∃ t, exec (.movmlPop n) s = .next (t.raise .cpuAddressError (s.following 2)) ∧ t.reg 15 = s.reg 15 + BitVec.ofNat
      32 (4 * (n.toNat + 1)) ∧
      (∀ j : Nat, j < 15 → if j ≤ n.toNat then
        s.canAccess 4 (s.reg 15 + BitVec.ofNat 32 (4 * j)) = true → t.reg (BitVec.ofNat 4 j) = s.peek32 (s.reg 15 +
          BitVec.ofNat 32 (4 * j))
        else t.reg (BitVec.ofNat 4 j) = s.reg (BitVec.ofNat 4 j)) ∧
      (if n = 15 then s.canAccess 4 (s.reg 15 + 60) = true → t.pr = s.peek32 (s.reg 15 + 60) else t.pr = s.pr) ∧
      SameSpecials s t [.pr] ∧ SameMemory s t ∧ SameFregs s t [] ∧ SameStatus s t 0 ∧ SameBanks s t ∧ SamePlatform s
        t ∧ t.pc = (s.after 2).pc ∧ t.slot = .none ∧ t.power = s.power) ∧
  (∀ (n : GReg) (s : State), (∃ j : Nat, n.toNat ≤ j ∧ j < 16 ∧ s.canAccess 4 (s.reg 15 + BitVec.ofNat 32 (4 * (j -
    n.toNat))) = false) →
    ∃ t, exec (.movmuPop n) s = .next (t.raise .cpuAddressError (s.following 2)) ∧ t.reg 15 = s.reg 15 + BitVec.ofNat
      32 (4 * (16 - n.toNat)) ∧
      (∀ j : Nat, j < 15 → if n.toNat ≤ j then
        s.canAccess 4 (s.reg 15 + BitVec.ofNat 32 (4 * (j - n.toNat))) = true → t.reg (BitVec.ofNat 4 j) = s.peek32
          (s.reg 15 + BitVec.ofNat 32 (4 * (j - n.toNat)))
        else t.reg (BitVec.ofNat 4 j) = s.reg (BitVec.ofNat 4 j)) ∧
      (s.canAccess 4 (s.reg 15 + BitVec.ofNat 32 (4 * (15 - n.toNat))) = true → t.pr = s.peek32 (s.reg 15 +
        BitVec.ofNat 32 (4 * (15 - n.toNat)))) ∧
      SameSpecials s t [.pr] ∧ SameMemory s t ∧ SameFregs s t [] ∧ SameStatus s t 0 ∧ SameBanks s t ∧ SamePlatform s
        t ∧ t.pc = (s.after 2).pc ∧ t.slot = .none ∧ t.power = s.power) ∧
  (∀ (n : GReg) (s : State), s.cfg.hasBanks = true →
    (∀ (k : Nat) (e : Nat), k < s.banks.length → e < 20 → (s.reg n).toNat ≠ 128 * k + 4 * e) →
    exec (.ldbank n) s = .fault .bankAddressNotGuaranteed ∧ exec (.stbank n) s = .fault .bankAddressNotGuaranteed) ∧
  (∀ (s : State) (k : ResetKind), s.resetSignal = some k →
    s.canAccess 4 k.vectorAddress = false ∨ s.canAccess 4 (k.vectorAddress + 4) = false →
    step s = .refused .resetVectorForbidden)

/-- Big-endian layout of stores and loads, and when an access is allowed. The forbidden ranges are the product
  parameter DataForbidden of R84 and R86. The addresses of the bytes wrap (D1, log 24). Basis: R82, R84, R85, R86,
    R87. -/
def Obligations.memory_access : Prop :=
  (∀ (s : State) (a : Word) (v : Word) (t : State), Memory.wf s.mem → s.plain a 4 → t = s.poke32 a v →
    t.peek a = v.extractLsb' 24 8 ∧ t.peek (a + 1) = v.extractLsb' 16 8 ∧ t.peek (a + 2) = v.extractLsb' 8 8 ∧
    t.peek (a + 3) = v.extractLsb' 0 8 ∧ t.peek16 a = v.extractLsb' 16 16 ∧ t.peek16 (a + 2) = v.extractLsb' 0 16 ∧
    t.peek32 a = v ∧ SameMemoryOutside s t a 4) ∧
  (∀ (s : State) (a : Word) (v : Half) (t : State), Memory.wf s.mem → s.plain a 2 → t = s.poke16 a v →
    t.peek a = v.extractLsb' 8 8 ∧ t.peek (a + 1) = v.extractLsb' 0 8 ∧ t.peek16 a = v ∧ SameMemoryOutside s t a 2) ∧
  (∀ (s : State) (a : Word) (v : Quad) (t : State), Memory.wf s.mem → s.plain a 8 → t = s.poke64 a v →
    t.peek32 a = v.extractLsb' 32 32 ∧ t.peek32 (a + 4) = v.extractLsb' 0 32 ∧ t.peek64 a = v ∧
    SameMemoryOutside s t a 8) ∧
  (∀ (s : State) (a : Word) (v : Byte) (t : State), Memory.wf s.mem → s.plain a 1 → t = s.poke a v →
    t.peek a = v ∧ SameMemoryOutside s t a 1) ∧
  (∀ (s : State) (a : Word) (n : Nat), n ∈ [1, 2, 4, 8] →
    (s.canAccess n a = true ↔ a.toNat % n = 0 ∧ ∀ r ∈ s.cfg.dataForbidden, ¬(r.first.toNat ≤ a.toNat ∧ a.toNat ≤
      r.last.toNat)))

/-- Which requests are acceptable, which use the banks, and how one is entered. The levels of the sources, 15 for the
  user break and H-UDI, are R761's table. The saved PC, the address of the instruction that would have executed next,
    is the sentence of R762 that the spec marks as derived. Basis: R50, R51, R53, R54, R745, R760, R761, R762. -/
def Obligations.interrupt_entry : Prop :=
  (∀ (s : State) (r : IntReq), s.acceptable r = true ↔ r = .nmi ∨ s.imask.toNat < r.priority) ∧
  (IntReq.nmi.maskLevel = 15 ∧ IntReq.userBreak.maskLevel = 15 ∧ IntReq.hudi.maskLevel = 15 ∧
    ∀ l v, (IntReq.irq l v).maskLevel = l ∧ (IntReq.peripheral l v).maskLevel = l ∧
      (IntReq.irq l v).priority = l.toNat ∧ (IntReq.peripheral l v).priority = l.toNat) ∧
  (∀ (s : State) (r : IntReq), s.ibnrBe ≠ 2 → (s.usesBank r = true ↔ s.cfg.hasBanks = true ∧ r ≠ .nmi ∧ r ≠
    .userBreak ∧
    (s.ibnrBe = 1 ∨ (s.ibnrBe = 3 ∧ s.ibcr.getLsbD r.maskLevel.toNat = true)))) ∧
  (∀ (s : State) (r : IntReq), s.bn ≤ s.banks.length →
    (s.usesBank r = true → s.bn = s.banks.length → s.ibnrBove = true →
      s.interruptEntry r = s.enter .bankOverflow s.pc (some r.maskLevel) .nowhere) ∧
    (s.usesBank r = true → s.bn = s.banks.length → s.ibnrBove = false →
      s.interruptEntry r = s.enter (.interrupt r.vector) s.pc (some r.maskLevel) .toStack) ∧
    (s.usesBank r = true → s.bn ≠ s.banks.length →
      s.interruptEntry r = s.enter (.interrupt r.vector) s.pc (some r.maskLevel) .toBank) ∧
    (s.usesBank r = false →
      s.interruptEntry r = s.enter (.interrupt r.vector) s.pc (some r.maskLevel) .nowhere))

/-- The order of events at a step: environment, reset, slot, held error, low power, platform errors, interrupts. The
  model's choices: the lists of inputs (log 11) and of the environment's acts, which land between steps (log 29, log
    35), the reset at any step and the place of the held error in the order (D23, log 12) and its entry in the
      low-power state, which only an acceptable request ends (D3, log 28), and a boundary between an untaken branch
        and the next instruction (D15, log 10). Basis: R8, R16, R422, R701, R703, R726, R728, R750, R780, R781, R800.
          -/
def Obligations.step_events : Prop :=
  ∀ (s u : State) (i : Inputs) (js : List Inputs), u = s.environment →
    (s.outside = [] → u = s ∧ s.resetSignal = none) ∧
    (∀ o os, s.outside = o :: os → Memory.wf s.mem →
      s.resetSignal = (if o.powerOn then some .powerOn else if o.manual then some .manual else none) ∧
      u.outside = os ∧ u.fpuStopped = o.fpuStopped.getD s.fpuStopped ∧
      (∀ a, (∀ w ∈ o.writes, w.1 ≠ a) → u.peek a = s.peek a) ∧
      (∀ ws a v, o.writes = ws ++ [(a, v)] → s.plain a 1 → u.peek a = v)) ∧
    (u.pc = s.pc ∧ u.sr = s.sr ∧ u.slot = s.slot ∧ u.held = s.held ∧ u.power = s.power ∧ u.inputs = s.inputs ∧
      u.cfg = s.cfg ∧ SameRegs s u [] ∧ SameFregs s u [] ∧ SameSpecials s u [] ∧ SameBanks s u) ∧
    (∀ k, s.resetSignal = some k → step s = u.resetMachine k) ∧
    (s.resetSignal = none → ∀ target, u.slot = .taken target → step s = u.runInstruction) ∧
    (s.resetSignal = none → (∀ target, u.slot ≠ .taken target) →
      (u.held = true → step s = .next (u.raise .cpuAddressError u.pc)) ∧
      (u.held = false → u.power = .lowPower → u.inputs = [] → step s = .next u) ∧
      (u.held = false → u.power = .lowPower → u.inputs = i :: js →
        (∀ r, i.request = some r → u.acceptable r = false) → step s = .next { u with inputs := js }) ∧
      (u.held = false → (u.power = .run ∨ ∃ r, i.request = some r ∧ u.acceptable r = true) → u.inputs = i :: js →
        i.dmacError = true → step s =
          .next (({ u with inputs := if i.ramError = false ∧ i.request = none then js else
            { i with dmacError := false } :: js } : State).raise .dmacAddressError u.pc)) ∧
      (u.held = false → (u.power = .run ∨ ∃ r, i.request = some r ∧ u.acceptable r = true) → u.inputs = i :: js →
        i.dmacError = false → i.ramError = true → step s =
          .next (({ u with inputs := if i.request = none then js else
            { i with ramError := false } :: js } : State).raise .ramError u.pc)) ∧
      (∀ r, u.held = false → u.inputs = i :: js → i.dmacError = false → i.ramError = false → i.request = some r →
        u.acceptable r = true → step s = .next (({ u with inputs := js } : State).interruptEntry r)) ∧
      (u.held = false → u.power = .run → u.inputs = i :: js → i.dmacError = false → i.ramError = false →
        (∀ r, i.request = some r → u.acceptable r = false) → step s = State.runInstruction { u with inputs := js }) ∧
      (u.held = false → u.power = .run → u.inputs = [] → step s = u.runInstruction))

/-- Bank save, RESBANK after it, and the stack save when the banks are full. The numbers of the entries 15 to 19 are
  the spec's decision D6 (log 14), the VTO entry is R51's derived sentence. The second clause is the layout of R54
    and R717; its way back by RESBANK is a clause of `bank_instructions`. Basis: R51, R52, R54, R55, R485, R717,
      R762. -/
def Obligations.bank_save_and_restore : Prop :=
  (∀ (s : State) (v : BitVec 9) (saved : Word) (l : BitVec 4) (t : State), s.entryAllowed (.interrupt v) →
    s.bn < s.banks.length → t = s.enter (.interrupt v) saved (some l) .toBank →
    t.bn = s.bn + 1 ∧ t.banks.length = s.banks.length ∧ (∀ k, k ≠ s.bn → t.banks[k]? = s.banks[k]?) ∧
    (∃ b : Bank, t.banks[s.bn]? = some b ∧ (∀ (k : Nat) (h : k < 15), b[k] = s.reg (BitVec.ofNat 4 k)) ∧
      b[15] = s.gbr ∧ b[16] = s.mach ∧ b[17] = s.macl ∧ b[18] = s.pr ∧ b[19] = v.setWidth 32 * 4) ∧
    SameRegs s t [15] ∧ SameSpecials s t [] ∧ t.bo = s.bo ∧ t.imask = l ∧
    (∀ u : State, u.banks = t.banks → u.bn = t.bn → u.bo = false → u.slot = .none → u.held = false →
      u.cfg.hasBanks = true → ∃ w, exec .resbank u = .next w ∧ w.bn = s.bn ∧
        (∀ k : GReg, k ≠ 15 → w.reg k = s.reg k) ∧ w.gbr = s.gbr ∧ w.mach = s.mach ∧ w.macl = s.macl ∧ w.pr = s.pr)) ∧
  (∀ (s : State) (v : BitVec 9) (saved : Word) (l : BitVec 4) (t : State), s.reg 15 &&& 3 = 0 → s.vbr &&& 3 = 0 →
    s.cfg.dataForbidden = [] → Memory.wf s.mem → s.plain (s.reg 15 - 84) 84 →
    t = s.enter (.interrupt v) saved (some l) .toStack →
    t.reg 15 = s.reg 15 - 84 ∧ t.bo = true ∧ t.imask = l ∧ SameBanks s t ∧
    t.pc = s.peek32 (s.vbr + v.setWidth 32 * 4) ∧ t.peek32 (s.reg 15 - 4) = s.sr ∧ t.peek32 (s.reg 15 - 8) = saved ∧
    t.peek32 (s.reg 15 - 12) = s.macl ∧ t.peek32 (s.reg 15 - 16) = s.mach ∧ t.peek32 (s.reg 15 - 20) = s.gbr ∧
    t.peek32 (s.reg 15 - 24) = s.pr ∧
    (∀ k : Nat, k < 15 → t.peek32 (s.reg 15 - 84 + BitVec.ofNat 32 (4 * k)) = s.reg (BitVec.ofNat 4 k)) ∧
    SameMemoryOutside s t (s.reg 15 - 84) 84 ∧ SameRegs s t [15] ∧ SameSpecials s t [])

/-- Power-on and manual reset of a running machine. Every register not named is open after the reset (R58, log 13).
  The model's choices: a reset at any step, between a branch and its slot too (D23, log 12), its place in the list of
    the environment's acts (log 29), that what is pending is the head entry of the inputs (log 11), and what a manual
      reset keeps beside the FPU (R802's derived sentence, log 13). Basis: R57, R701, R703, R800, R801, R802, R803. -/
def Obligations.reset_of_a_running_machine : Prop :=
  ∀ (s u : State) (o : Outside) (os : List Outside) (k : ResetKind), u = s.environment → u.cfg.dataForbidden = [] →
    s.outside = o :: os →
    (if o.powerOn = true then k = .powerOn else o.manual = true ∧ k = .manual) → ∃ t, step s = .next t ∧
      t.pc = u.peek32 (match k with | .powerOn => 0 | .manual => 8) ∧
      t.reg 15 = u.peek32 (match k with | .powerOn => 4 | .manual => 12) ∧
      t.vbr = 0 ∧ t.imask = 15 ∧ t.bo = false ∧ t.cs = false ∧ t.sr &&& 0xFFFF9C0C = 0 ∧ t.bn = 0 ∧ t.slot = .none ∧
      t.held = false ∧ t.power = .run ∧ t.inputs = u.inputs.tail ∧ t.outside = os ∧ t.mem = u.mem ∧ t.cfg = u.cfg ∧
        t.fpuStopped = u.fpuStopped ∧
      t.banks.length = u.banks.length ∧
      (k = .powerOn → (u.cfg.hasFpu = true → t.fpscr = 0x00040001) ∧ t.ibcr = 0 ∧ t.ibnrBe = 0 ∧ t.ibnrBove = false) ∧
      (k = .manual → t.fpscr = u.fpscr ∧ t.fpul = u.fpul ∧ t.fregs = u.fregs ∧ t.banks = u.banks ∧ t.ibcr = u.ibcr ∧
        t.ibnrBe = u.ibnrBe ∧ t.ibnrBove = u.ibnrBove)

/-- The values of the state after a power-on reset, and memory that lists nothing. The last clause is the model's
  choice: no program is placed and memory lists nothing (log 3, log 4). The registers that the manual calls undefined
    are not stated here (log 2). Basis: R57, R801, R803. -/
def Obligations.reset_state_values : Prop :=
  State.reset.pc = State.reset.peek32 0 ∧ State.reset.reg 15 = State.reset.peek32 4 ∧ State.reset.imask = 15 ∧
    State.reset.bo = false ∧ State.reset.cs = false ∧ State.reset.sr &&& 0xFFFF9C0C = 0 ∧ State.reset.vbr = 0 ∧
    State.reset.fpscr = 0x00040001 ∧ State.reset.bn = 0 ∧ State.reset.ibcr = 0 ∧ State.reset.ibnrBe = 0 ∧
    State.reset.ibnrBove = false ∧ State.reset.slot = .none ∧ State.reset.held = false ∧ State.reset.power = .run ∧
    State.reset.mem = []

end
end

