-- ==== Sys2Proof/Laws/Memory.lean ====
section
/-!
SUPPORT. The laws of memory: what a read gives after a write, and that every write keeps the canonical form.
-/

namespace Sys2Proof.Machine

open Sys2Proof

theorem Memory.read_of_lt (m : Memory) (a : Nat) (h : ∀ c ∈ m, a < c.1) : Memory.read m a = Memory.unlisted := by
  induction m with
  | nil => rfl
  | cons c rest ih =>
    have hc := h c (by simp)
    have : ¬ c.1 = a := by omega
    simp only [Memory.read, this, if_false]
    exact ih (fun d hd => h d (by simp [hd]))

/-- A read after a write to the same address gives what was written. -/
theorem Memory.read_write_same (m : Memory) (a : Nat) (v : Byte) (h : Memory.wf m) :
    Memory.read (Memory.write m a v) a = v := by
  induction m with
  | nil =>
    unfold Memory.write
    split
    · next h1 => simp [Memory.read, h1]
    · simp [Memory.read]
  | cons c rest ih =>
    obtain ⟨k, w⟩ := c
    obtain ⟨hp, hm⟩ := h
    rw [List.pairwise_cons] at hp
    have hrest : Memory.wf rest := ⟨hp.2, fun d hd => hm d (by simp [hd])⟩
    unfold Memory.write
    split
    · next h1 =>
      split
      · next h2 =>
        have hk : ¬ k = a := by omega
        simp only [Memory.read, hk, if_false]
        rw [Memory.read_of_lt rest a (fun d hd => Nat.lt_trans h1 (hp.1 d hd)), h2]
      · simp [Memory.read]
    · split
      · next h1 h2 =>
        subst h2
        split
        · next h3 => rw [Memory.read_of_lt rest a (fun d hd => hp.1 d hd), h3]
        · simp [Memory.read]
      · next h1 h2 =>
        have hk : ¬ k = a := by omega
        simp only [Memory.read, hk, if_false]
        exact ih hrest

/-- A write leaves every other address alone. -/
theorem Memory.read_write_other (m : Memory) (a b : Nat) (v : Byte) (hb : b ≠ a) (h : Memory.wf m) :
    Memory.read (Memory.write m a v) b = Memory.read m b := by
  have hab : ¬ a = b := fun e => hb e.symm
  induction m with
  | nil =>
    unfold Memory.write
    split
    · rfl
    · simp [Memory.read, hab]
  | cons c rest ih =>
    obtain ⟨k, w⟩ := c
    obtain ⟨hp, hm⟩ := h
    rw [List.pairwise_cons] at hp
    have hrest : Memory.wf rest := ⟨hp.2, fun d hd => hm d (by simp [hd])⟩
    unfold Memory.write
    split
    · split
      · rfl
      · simp [Memory.read, hab]
    · split
      · next h1 h2 =>
        subst h2
        split
        · by_cases hk : a = b
          · exact absurd hk hab
          · simp [Memory.read, hk]
        · simp [Memory.read, hab]
      · simp only [Memory.read]
        split
        · rfl
        · exact ih hrest

/-- Every entry of a written memory is an old entry or the one written. -/
theorem Memory.mem_write (m : Memory) (a : Nat) (v : Byte) (c : Host.Cell) (h : c ∈ Memory.write m a v) :
    c ∈ m ∨ (c = (a, v) ∧ v ≠ Memory.unlisted) := by
  induction m with
  | nil =>
    unfold Memory.write at h
    split at h
    · simp at h
    · next hv => simp at h; exact .inr ⟨h, hv⟩
  | cons d rest ih =>
    obtain ⟨k, w⟩ := d
    unfold Memory.write at h
    split at h
    · split at h
      · exact .inl h
      · next hv =>
        rcases List.mem_cons.mp h with h | h
        · exact .inr ⟨h, hv⟩
        · exact .inl h
    · split at h
      · split at h
        · exact .inl (List.mem_cons_of_mem _ h)
        · next hv =>
          rcases List.mem_cons.mp h with h | h
          · exact .inr ⟨h, hv⟩
          · exact .inl (List.mem_cons_of_mem _ h)
      · rcases List.mem_cons.mp h with h | h
        · exact .inl (h ▸ List.mem_cons_self)
        · rcases ih h with h | h
          · exact .inl (List.mem_cons_of_mem _ h)
          · exact .inr h

/-- A write keeps the canonical form. -/
theorem Memory.write_wf (m : Memory) (a : Nat) (v : Byte) (ha : a < 2 ^ 32) (h : Memory.wf m) :
    Memory.wf (Memory.write m a v) := by
  refine ⟨?_, fun c hc => ?_⟩
  · induction m with
    | nil =>
      unfold Memory.write
      split <;> simp
    | cons d rest ih =>
      obtain ⟨k, w⟩ := d
      obtain ⟨hp, hm⟩ := h
      have hp' := List.pairwise_cons.mp hp
      have hrest : Memory.wf rest := ⟨hp'.2, fun e he => hm e (by simp [he])⟩
      unfold Memory.write
      split
      · next h1 =>
        split
        · exact hp
        · refine List.pairwise_cons.mpr ⟨fun e he => ?_, hp⟩
          rcases List.mem_cons.mp he with he | he
          · exact he ▸ h1
          · exact Nat.lt_trans h1 (hp'.1 e he)
      · split
        · next h1 h2 =>
          subst h2
          split
          · exact hp'.2
          · exact List.pairwise_cons.mpr ⟨fun e he => hp'.1 e he, hp'.2⟩
        · next h1 h2 =>
          refine List.pairwise_cons.mpr ⟨fun e he => ?_, ih hrest⟩
          rcases Memory.mem_write rest a v e he with he | he
          · exact hp'.1 e he
          · simp only [he.1]; omega
  · rcases Memory.mem_write m a v c hc with hc | hc
    · exact h.2 c hc
    · rw [hc.1]; exact ⟨ha, hc.2⟩

/-- A write at a longword address keeps the canonical form. -/
theorem Memory.write_wf_word (m : Memory) (a : Word) (v : Byte) (h : Memory.wf m) :
    Memory.wf (Memory.write m a.toNat v) := Memory.write_wf m a.toNat v a.isLt h

/-- The empty memory is in canonical form. -/
theorem Memory.nil_wf : Memory.wf [] := by simp [Memory.wf]

end Sys2Proof.Machine
end

