-- ==== Sys2Proof/Laws/State.lean ====
section
/-!
SUPPORT. What each update of the state does to each field, one lemma per field per update, so that no proof unfolds a
record update. Every lemma holds by `rfl`.
-/

namespace Sys2Proof.Machine

open Sys2Proof

/-! ### `setReg` -/

@[simp] theorem State.setReg_regs (s : State) (n : GReg) (v : Word) : (s.setReg n v).regs = s.regs.set n.toNat v n.isLt := rfl
@[simp] theorem State.setReg_fregs (s : State) (n : GReg) (v : Word) : (s.setReg n v).fregs = s.fregs := rfl
@[simp] theorem State.setReg_pc (s : State) (n : GReg) (v : Word) : (s.setReg n v).pc = s.pc := rfl
@[simp] theorem State.setReg_sr (s : State) (n : GReg) (v : Word) : (s.setReg n v).sr = s.sr := rfl
@[simp] theorem State.setReg_gbr (s : State) (n : GReg) (v : Word) : (s.setReg n v).gbr = s.gbr := rfl
@[simp] theorem State.setReg_vbr (s : State) (n : GReg) (v : Word) : (s.setReg n v).vbr = s.vbr := rfl
@[simp] theorem State.setReg_tbr (s : State) (n : GReg) (v : Word) : (s.setReg n v).tbr = s.tbr := rfl
@[simp] theorem State.setReg_mach (s : State) (n : GReg) (v : Word) : (s.setReg n v).mach = s.mach := rfl
@[simp] theorem State.setReg_macl (s : State) (n : GReg) (v : Word) : (s.setReg n v).macl = s.macl := rfl
@[simp] theorem State.setReg_pr (s : State) (n : GReg) (v : Word) : (s.setReg n v).pr = s.pr := rfl
@[simp] theorem State.setReg_fpul (s : State) (n : GReg) (v : Word) : (s.setReg n v).fpul = s.fpul := rfl
@[simp] theorem State.setReg_fpscr (s : State) (n : GReg) (v : Word) : (s.setReg n v).fpscr = s.fpscr := rfl
@[simp] theorem State.setReg_slot (s : State) (n : GReg) (v : Word) : (s.setReg n v).slot = s.slot := rfl
@[simp] theorem State.setReg_held (s : State) (n : GReg) (v : Word) : (s.setReg n v).held = s.held := rfl
@[simp] theorem State.setReg_power (s : State) (n : GReg) (v : Word) : (s.setReg n v).power = s.power := rfl
@[simp] theorem State.setReg_banks (s : State) (n : GReg) (v : Word) : (s.setReg n v).banks = s.banks := rfl
@[simp] theorem State.setReg_bn (s : State) (n : GReg) (v : Word) : (s.setReg n v).bn = s.bn := rfl
@[simp] theorem State.setReg_ibcr (s : State) (n : GReg) (v : Word) : (s.setReg n v).ibcr = s.ibcr := rfl
@[simp] theorem State.setReg_ibnrBe (s : State) (n : GReg) (v : Word) : (s.setReg n v).ibnrBe = s.ibnrBe := rfl
@[simp] theorem State.setReg_ibnrBove (s : State) (n : GReg) (v : Word) : (s.setReg n v).ibnrBove = s.ibnrBove := rfl
@[simp] theorem State.setReg_fpuStopped (s : State) (n : GReg) (v : Word) : (s.setReg n v).fpuStopped = s.fpuStopped := rfl
@[simp] theorem State.setReg_mem (s : State) (n : GReg) (v : Word) : (s.setReg n v).mem = s.mem := rfl
@[simp] theorem State.setReg_inputs (s : State) (n : GReg) (v : Word) : (s.setReg n v).inputs = s.inputs := rfl
@[simp] theorem State.setReg_outside (s : State) (n : GReg) (v : Word) : (s.setReg n v).outside = s.outside := rfl
@[simp] theorem State.setReg_freeCount (s : State) (n : GReg) (v : Word) : (s.setReg n v).freeCount = s.freeCount := rfl
@[simp] theorem State.setReg_cfg (s : State) (n : GReg) (v : Word) : (s.setReg n v).cfg = s.cfg := rfl

/-! ### `setFreg` -/

@[simp] theorem State.setFreg_regs (s : State) (n : FReg) (v : Word) : (s.setFreg n v).regs = s.regs := rfl
@[simp] theorem State.setFreg_fregs (s : State) (n : FReg) (v : Word) : (s.setFreg n v).fregs = s.fregs.set n.toNat v n.isLt := rfl
@[simp] theorem State.setFreg_pc (s : State) (n : FReg) (v : Word) : (s.setFreg n v).pc = s.pc := rfl
@[simp] theorem State.setFreg_sr (s : State) (n : FReg) (v : Word) : (s.setFreg n v).sr = s.sr := rfl
@[simp] theorem State.setFreg_gbr (s : State) (n : FReg) (v : Word) : (s.setFreg n v).gbr = s.gbr := rfl
@[simp] theorem State.setFreg_vbr (s : State) (n : FReg) (v : Word) : (s.setFreg n v).vbr = s.vbr := rfl
@[simp] theorem State.setFreg_tbr (s : State) (n : FReg) (v : Word) : (s.setFreg n v).tbr = s.tbr := rfl
@[simp] theorem State.setFreg_mach (s : State) (n : FReg) (v : Word) : (s.setFreg n v).mach = s.mach := rfl
@[simp] theorem State.setFreg_macl (s : State) (n : FReg) (v : Word) : (s.setFreg n v).macl = s.macl := rfl
@[simp] theorem State.setFreg_pr (s : State) (n : FReg) (v : Word) : (s.setFreg n v).pr = s.pr := rfl
@[simp] theorem State.setFreg_fpul (s : State) (n : FReg) (v : Word) : (s.setFreg n v).fpul = s.fpul := rfl
@[simp] theorem State.setFreg_fpscr (s : State) (n : FReg) (v : Word) : (s.setFreg n v).fpscr = s.fpscr := rfl
@[simp] theorem State.setFreg_slot (s : State) (n : FReg) (v : Word) : (s.setFreg n v).slot = s.slot := rfl
@[simp] theorem State.setFreg_held (s : State) (n : FReg) (v : Word) : (s.setFreg n v).held = s.held := rfl
@[simp] theorem State.setFreg_power (s : State) (n : FReg) (v : Word) : (s.setFreg n v).power = s.power := rfl
@[simp] theorem State.setFreg_banks (s : State) (n : FReg) (v : Word) : (s.setFreg n v).banks = s.banks := rfl
@[simp] theorem State.setFreg_bn (s : State) (n : FReg) (v : Word) : (s.setFreg n v).bn = s.bn := rfl
@[simp] theorem State.setFreg_ibcr (s : State) (n : FReg) (v : Word) : (s.setFreg n v).ibcr = s.ibcr := rfl
@[simp] theorem State.setFreg_ibnrBe (s : State) (n : FReg) (v : Word) : (s.setFreg n v).ibnrBe = s.ibnrBe := rfl
@[simp] theorem State.setFreg_ibnrBove (s : State) (n : FReg) (v : Word) : (s.setFreg n v).ibnrBove = s.ibnrBove := rfl
@[simp] theorem State.setFreg_fpuStopped (s : State) (n : FReg) (v : Word) : (s.setFreg n v).fpuStopped = s.fpuStopped := rfl
@[simp] theorem State.setFreg_mem (s : State) (n : FReg) (v : Word) : (s.setFreg n v).mem = s.mem := rfl
@[simp] theorem State.setFreg_inputs (s : State) (n : FReg) (v : Word) : (s.setFreg n v).inputs = s.inputs := rfl
@[simp] theorem State.setFreg_outside (s : State) (n : FReg) (v : Word) : (s.setFreg n v).outside = s.outside := rfl
@[simp] theorem State.setFreg_freeCount (s : State) (n : FReg) (v : Word) : (s.setFreg n v).freeCount = s.freeCount := rfl
@[simp] theorem State.setFreg_cfg (s : State) (n : FReg) (v : Word) : (s.setFreg n v).cfg = s.cfg := rfl

/-! ### `setDreg` -/

@[simp] theorem State.setDreg_regs (s : State) (n : DReg) (v : Quad) : (s.setDreg n v).regs = s.regs := rfl
@[simp] theorem State.setDreg_pc (s : State) (n : DReg) (v : Quad) : (s.setDreg n v).pc = s.pc := rfl
@[simp] theorem State.setDreg_sr (s : State) (n : DReg) (v : Quad) : (s.setDreg n v).sr = s.sr := rfl
@[simp] theorem State.setDreg_gbr (s : State) (n : DReg) (v : Quad) : (s.setDreg n v).gbr = s.gbr := rfl
@[simp] theorem State.setDreg_vbr (s : State) (n : DReg) (v : Quad) : (s.setDreg n v).vbr = s.vbr := rfl
@[simp] theorem State.setDreg_tbr (s : State) (n : DReg) (v : Quad) : (s.setDreg n v).tbr = s.tbr := rfl
@[simp] theorem State.setDreg_mach (s : State) (n : DReg) (v : Quad) : (s.setDreg n v).mach = s.mach := rfl
@[simp] theorem State.setDreg_macl (s : State) (n : DReg) (v : Quad) : (s.setDreg n v).macl = s.macl := rfl
@[simp] theorem State.setDreg_pr (s : State) (n : DReg) (v : Quad) : (s.setDreg n v).pr = s.pr := rfl
@[simp] theorem State.setDreg_fpul (s : State) (n : DReg) (v : Quad) : (s.setDreg n v).fpul = s.fpul := rfl
@[simp] theorem State.setDreg_fpscr (s : State) (n : DReg) (v : Quad) : (s.setDreg n v).fpscr = s.fpscr := rfl
@[simp] theorem State.setDreg_slot (s : State) (n : DReg) (v : Quad) : (s.setDreg n v).slot = s.slot := rfl
@[simp] theorem State.setDreg_held (s : State) (n : DReg) (v : Quad) : (s.setDreg n v).held = s.held := rfl
@[simp] theorem State.setDreg_power (s : State) (n : DReg) (v : Quad) : (s.setDreg n v).power = s.power := rfl
@[simp] theorem State.setDreg_banks (s : State) (n : DReg) (v : Quad) : (s.setDreg n v).banks = s.banks := rfl
@[simp] theorem State.setDreg_bn (s : State) (n : DReg) (v : Quad) : (s.setDreg n v).bn = s.bn := rfl
@[simp] theorem State.setDreg_ibcr (s : State) (n : DReg) (v : Quad) : (s.setDreg n v).ibcr = s.ibcr := rfl
@[simp] theorem State.setDreg_ibnrBe (s : State) (n : DReg) (v : Quad) : (s.setDreg n v).ibnrBe = s.ibnrBe := rfl
@[simp] theorem State.setDreg_ibnrBove (s : State) (n : DReg) (v : Quad) : (s.setDreg n v).ibnrBove = s.ibnrBove := rfl
@[simp] theorem State.setDreg_fpuStopped (s : State) (n : DReg) (v : Quad) : (s.setDreg n v).fpuStopped = s.fpuStopped := rfl
@[simp] theorem State.setDreg_mem (s : State) (n : DReg) (v : Quad) : (s.setDreg n v).mem = s.mem := rfl
@[simp] theorem State.setDreg_inputs (s : State) (n : DReg) (v : Quad) : (s.setDreg n v).inputs = s.inputs := rfl
@[simp] theorem State.setDreg_outside (s : State) (n : DReg) (v : Quad) : (s.setDreg n v).outside = s.outside := rfl
@[simp] theorem State.setDreg_freeCount (s : State) (n : DReg) (v : Quad) : (s.setDreg n v).freeCount = s.freeCount := rfl
@[simp] theorem State.setDreg_cfg (s : State) (n : DReg) (v : Quad) : (s.setDreg n v).cfg = s.cfg := rfl

/-! ### `setSr` -/

@[simp] theorem State.setSr_regs (s : State) (v : Word) : (s.setSr v).regs = s.regs := rfl
@[simp] theorem State.setSr_fregs (s : State) (v : Word) : (s.setSr v).fregs = s.fregs := rfl
@[simp] theorem State.setSr_pc (s : State) (v : Word) : (s.setSr v).pc = s.pc := rfl
@[simp] theorem State.setSr_sr (s : State) (v : Word) : (s.setSr v).sr = v &&& srMask := rfl
@[simp] theorem State.setSr_gbr (s : State) (v : Word) : (s.setSr v).gbr = s.gbr := rfl
@[simp] theorem State.setSr_vbr (s : State) (v : Word) : (s.setSr v).vbr = s.vbr := rfl
@[simp] theorem State.setSr_tbr (s : State) (v : Word) : (s.setSr v).tbr = s.tbr := rfl
@[simp] theorem State.setSr_mach (s : State) (v : Word) : (s.setSr v).mach = s.mach := rfl
@[simp] theorem State.setSr_macl (s : State) (v : Word) : (s.setSr v).macl = s.macl := rfl
@[simp] theorem State.setSr_pr (s : State) (v : Word) : (s.setSr v).pr = s.pr := rfl
@[simp] theorem State.setSr_fpul (s : State) (v : Word) : (s.setSr v).fpul = s.fpul := rfl
@[simp] theorem State.setSr_fpscr (s : State) (v : Word) : (s.setSr v).fpscr = s.fpscr := rfl
@[simp] theorem State.setSr_slot (s : State) (v : Word) : (s.setSr v).slot = s.slot := rfl
@[simp] theorem State.setSr_held (s : State) (v : Word) : (s.setSr v).held = s.held := rfl
@[simp] theorem State.setSr_power (s : State) (v : Word) : (s.setSr v).power = s.power := rfl
@[simp] theorem State.setSr_banks (s : State) (v : Word) : (s.setSr v).banks = s.banks := rfl
@[simp] theorem State.setSr_bn (s : State) (v : Word) : (s.setSr v).bn = s.bn := rfl
@[simp] theorem State.setSr_ibcr (s : State) (v : Word) : (s.setSr v).ibcr = s.ibcr := rfl
@[simp] theorem State.setSr_ibnrBe (s : State) (v : Word) : (s.setSr v).ibnrBe = s.ibnrBe := rfl
@[simp] theorem State.setSr_ibnrBove (s : State) (v : Word) : (s.setSr v).ibnrBove = s.ibnrBove := rfl
@[simp] theorem State.setSr_fpuStopped (s : State) (v : Word) : (s.setSr v).fpuStopped = s.fpuStopped := rfl
@[simp] theorem State.setSr_mem (s : State) (v : Word) : (s.setSr v).mem = s.mem := rfl
@[simp] theorem State.setSr_inputs (s : State) (v : Word) : (s.setSr v).inputs = s.inputs := rfl
@[simp] theorem State.setSr_outside (s : State) (v : Word) : (s.setSr v).outside = s.outside := rfl
@[simp] theorem State.setSr_freeCount (s : State) (v : Word) : (s.setSr v).freeCount = s.freeCount := rfl
@[simp] theorem State.setSr_cfg (s : State) (v : Word) : (s.setSr v).cfg = s.cfg := rfl

/-! ### `setT` -/

@[simp] theorem State.setT_regs (s : State) (b : Bool) : (s.setT b).regs = s.regs := rfl
@[simp] theorem State.setT_fregs (s : State) (b : Bool) : (s.setT b).fregs = s.fregs := rfl
@[simp] theorem State.setT_pc (s : State) (b : Bool) : (s.setT b).pc = s.pc := rfl
@[simp] theorem State.setT_sr (s : State) (b : Bool) : (s.setT b).sr = withBit s.sr 0 b := rfl
@[simp] theorem State.setT_gbr (s : State) (b : Bool) : (s.setT b).gbr = s.gbr := rfl
@[simp] theorem State.setT_vbr (s : State) (b : Bool) : (s.setT b).vbr = s.vbr := rfl
@[simp] theorem State.setT_tbr (s : State) (b : Bool) : (s.setT b).tbr = s.tbr := rfl
@[simp] theorem State.setT_mach (s : State) (b : Bool) : (s.setT b).mach = s.mach := rfl
@[simp] theorem State.setT_macl (s : State) (b : Bool) : (s.setT b).macl = s.macl := rfl
@[simp] theorem State.setT_pr (s : State) (b : Bool) : (s.setT b).pr = s.pr := rfl
@[simp] theorem State.setT_fpul (s : State) (b : Bool) : (s.setT b).fpul = s.fpul := rfl
@[simp] theorem State.setT_fpscr (s : State) (b : Bool) : (s.setT b).fpscr = s.fpscr := rfl
@[simp] theorem State.setT_slot (s : State) (b : Bool) : (s.setT b).slot = s.slot := rfl
@[simp] theorem State.setT_held (s : State) (b : Bool) : (s.setT b).held = s.held := rfl
@[simp] theorem State.setT_power (s : State) (b : Bool) : (s.setT b).power = s.power := rfl
@[simp] theorem State.setT_banks (s : State) (b : Bool) : (s.setT b).banks = s.banks := rfl
@[simp] theorem State.setT_bn (s : State) (b : Bool) : (s.setT b).bn = s.bn := rfl
@[simp] theorem State.setT_ibcr (s : State) (b : Bool) : (s.setT b).ibcr = s.ibcr := rfl
@[simp] theorem State.setT_ibnrBe (s : State) (b : Bool) : (s.setT b).ibnrBe = s.ibnrBe := rfl
@[simp] theorem State.setT_ibnrBove (s : State) (b : Bool) : (s.setT b).ibnrBove = s.ibnrBove := rfl
@[simp] theorem State.setT_fpuStopped (s : State) (b : Bool) : (s.setT b).fpuStopped = s.fpuStopped := rfl
@[simp] theorem State.setT_mem (s : State) (b : Bool) : (s.setT b).mem = s.mem := rfl
@[simp] theorem State.setT_inputs (s : State) (b : Bool) : (s.setT b).inputs = s.inputs := rfl
@[simp] theorem State.setT_outside (s : State) (b : Bool) : (s.setT b).outside = s.outside := rfl
@[simp] theorem State.setT_freeCount (s : State) (b : Bool) : (s.setT b).freeCount = s.freeCount := rfl
@[simp] theorem State.setT_cfg (s : State) (b : Bool) : (s.setT b).cfg = s.cfg := rfl

/-! ### `setQ` -/

@[simp] theorem State.setQ_regs (s : State) (b : Bool) : (s.setQ b).regs = s.regs := rfl
@[simp] theorem State.setQ_fregs (s : State) (b : Bool) : (s.setQ b).fregs = s.fregs := rfl
@[simp] theorem State.setQ_pc (s : State) (b : Bool) : (s.setQ b).pc = s.pc := rfl
@[simp] theorem State.setQ_sr (s : State) (b : Bool) : (s.setQ b).sr = withBit s.sr 8 b := rfl
@[simp] theorem State.setQ_gbr (s : State) (b : Bool) : (s.setQ b).gbr = s.gbr := rfl
@[simp] theorem State.setQ_vbr (s : State) (b : Bool) : (s.setQ b).vbr = s.vbr := rfl
@[simp] theorem State.setQ_tbr (s : State) (b : Bool) : (s.setQ b).tbr = s.tbr := rfl
@[simp] theorem State.setQ_mach (s : State) (b : Bool) : (s.setQ b).mach = s.mach := rfl
@[simp] theorem State.setQ_macl (s : State) (b : Bool) : (s.setQ b).macl = s.macl := rfl
@[simp] theorem State.setQ_pr (s : State) (b : Bool) : (s.setQ b).pr = s.pr := rfl
@[simp] theorem State.setQ_fpul (s : State) (b : Bool) : (s.setQ b).fpul = s.fpul := rfl
@[simp] theorem State.setQ_fpscr (s : State) (b : Bool) : (s.setQ b).fpscr = s.fpscr := rfl
@[simp] theorem State.setQ_slot (s : State) (b : Bool) : (s.setQ b).slot = s.slot := rfl
@[simp] theorem State.setQ_held (s : State) (b : Bool) : (s.setQ b).held = s.held := rfl
@[simp] theorem State.setQ_power (s : State) (b : Bool) : (s.setQ b).power = s.power := rfl
@[simp] theorem State.setQ_banks (s : State) (b : Bool) : (s.setQ b).banks = s.banks := rfl
@[simp] theorem State.setQ_bn (s : State) (b : Bool) : (s.setQ b).bn = s.bn := rfl
@[simp] theorem State.setQ_ibcr (s : State) (b : Bool) : (s.setQ b).ibcr = s.ibcr := rfl
@[simp] theorem State.setQ_ibnrBe (s : State) (b : Bool) : (s.setQ b).ibnrBe = s.ibnrBe := rfl
@[simp] theorem State.setQ_ibnrBove (s : State) (b : Bool) : (s.setQ b).ibnrBove = s.ibnrBove := rfl
@[simp] theorem State.setQ_fpuStopped (s : State) (b : Bool) : (s.setQ b).fpuStopped = s.fpuStopped := rfl
@[simp] theorem State.setQ_mem (s : State) (b : Bool) : (s.setQ b).mem = s.mem := rfl
@[simp] theorem State.setQ_inputs (s : State) (b : Bool) : (s.setQ b).inputs = s.inputs := rfl
@[simp] theorem State.setQ_outside (s : State) (b : Bool) : (s.setQ b).outside = s.outside := rfl
@[simp] theorem State.setQ_freeCount (s : State) (b : Bool) : (s.setQ b).freeCount = s.freeCount := rfl
@[simp] theorem State.setQ_cfg (s : State) (b : Bool) : (s.setQ b).cfg = s.cfg := rfl

/-! ### `setM` -/

@[simp] theorem State.setM_regs (s : State) (b : Bool) : (s.setM b).regs = s.regs := rfl
@[simp] theorem State.setM_fregs (s : State) (b : Bool) : (s.setM b).fregs = s.fregs := rfl
@[simp] theorem State.setM_pc (s : State) (b : Bool) : (s.setM b).pc = s.pc := rfl
@[simp] theorem State.setM_sr (s : State) (b : Bool) : (s.setM b).sr = withBit s.sr 9 b := rfl
@[simp] theorem State.setM_gbr (s : State) (b : Bool) : (s.setM b).gbr = s.gbr := rfl
@[simp] theorem State.setM_vbr (s : State) (b : Bool) : (s.setM b).vbr = s.vbr := rfl
@[simp] theorem State.setM_tbr (s : State) (b : Bool) : (s.setM b).tbr = s.tbr := rfl
@[simp] theorem State.setM_mach (s : State) (b : Bool) : (s.setM b).mach = s.mach := rfl
@[simp] theorem State.setM_macl (s : State) (b : Bool) : (s.setM b).macl = s.macl := rfl
@[simp] theorem State.setM_pr (s : State) (b : Bool) : (s.setM b).pr = s.pr := rfl
@[simp] theorem State.setM_fpul (s : State) (b : Bool) : (s.setM b).fpul = s.fpul := rfl
@[simp] theorem State.setM_fpscr (s : State) (b : Bool) : (s.setM b).fpscr = s.fpscr := rfl
@[simp] theorem State.setM_slot (s : State) (b : Bool) : (s.setM b).slot = s.slot := rfl
@[simp] theorem State.setM_held (s : State) (b : Bool) : (s.setM b).held = s.held := rfl
@[simp] theorem State.setM_power (s : State) (b : Bool) : (s.setM b).power = s.power := rfl
@[simp] theorem State.setM_banks (s : State) (b : Bool) : (s.setM b).banks = s.banks := rfl
@[simp] theorem State.setM_bn (s : State) (b : Bool) : (s.setM b).bn = s.bn := rfl
@[simp] theorem State.setM_ibcr (s : State) (b : Bool) : (s.setM b).ibcr = s.ibcr := rfl
@[simp] theorem State.setM_ibnrBe (s : State) (b : Bool) : (s.setM b).ibnrBe = s.ibnrBe := rfl
@[simp] theorem State.setM_ibnrBove (s : State) (b : Bool) : (s.setM b).ibnrBove = s.ibnrBove := rfl
@[simp] theorem State.setM_fpuStopped (s : State) (b : Bool) : (s.setM b).fpuStopped = s.fpuStopped := rfl
@[simp] theorem State.setM_mem (s : State) (b : Bool) : (s.setM b).mem = s.mem := rfl
@[simp] theorem State.setM_inputs (s : State) (b : Bool) : (s.setM b).inputs = s.inputs := rfl
@[simp] theorem State.setM_outside (s : State) (b : Bool) : (s.setM b).outside = s.outside := rfl
@[simp] theorem State.setM_freeCount (s : State) (b : Bool) : (s.setM b).freeCount = s.freeCount := rfl
@[simp] theorem State.setM_cfg (s : State) (b : Bool) : (s.setM b).cfg = s.cfg := rfl

/-! ### `setCs` -/

@[simp] theorem State.setCs_regs (s : State) (b : Bool) : (s.setCs b).regs = s.regs := rfl
@[simp] theorem State.setCs_fregs (s : State) (b : Bool) : (s.setCs b).fregs = s.fregs := rfl
@[simp] theorem State.setCs_pc (s : State) (b : Bool) : (s.setCs b).pc = s.pc := rfl
@[simp] theorem State.setCs_sr (s : State) (b : Bool) : (s.setCs b).sr = withBit s.sr 13 b := rfl
@[simp] theorem State.setCs_gbr (s : State) (b : Bool) : (s.setCs b).gbr = s.gbr := rfl
@[simp] theorem State.setCs_vbr (s : State) (b : Bool) : (s.setCs b).vbr = s.vbr := rfl
@[simp] theorem State.setCs_tbr (s : State) (b : Bool) : (s.setCs b).tbr = s.tbr := rfl
@[simp] theorem State.setCs_mach (s : State) (b : Bool) : (s.setCs b).mach = s.mach := rfl
@[simp] theorem State.setCs_macl (s : State) (b : Bool) : (s.setCs b).macl = s.macl := rfl
@[simp] theorem State.setCs_pr (s : State) (b : Bool) : (s.setCs b).pr = s.pr := rfl
@[simp] theorem State.setCs_fpul (s : State) (b : Bool) : (s.setCs b).fpul = s.fpul := rfl
@[simp] theorem State.setCs_fpscr (s : State) (b : Bool) : (s.setCs b).fpscr = s.fpscr := rfl
@[simp] theorem State.setCs_slot (s : State) (b : Bool) : (s.setCs b).slot = s.slot := rfl
@[simp] theorem State.setCs_held (s : State) (b : Bool) : (s.setCs b).held = s.held := rfl
@[simp] theorem State.setCs_power (s : State) (b : Bool) : (s.setCs b).power = s.power := rfl
@[simp] theorem State.setCs_banks (s : State) (b : Bool) : (s.setCs b).banks = s.banks := rfl
@[simp] theorem State.setCs_bn (s : State) (b : Bool) : (s.setCs b).bn = s.bn := rfl
@[simp] theorem State.setCs_ibcr (s : State) (b : Bool) : (s.setCs b).ibcr = s.ibcr := rfl
@[simp] theorem State.setCs_ibnrBe (s : State) (b : Bool) : (s.setCs b).ibnrBe = s.ibnrBe := rfl
@[simp] theorem State.setCs_ibnrBove (s : State) (b : Bool) : (s.setCs b).ibnrBove = s.ibnrBove := rfl
@[simp] theorem State.setCs_fpuStopped (s : State) (b : Bool) : (s.setCs b).fpuStopped = s.fpuStopped := rfl
@[simp] theorem State.setCs_mem (s : State) (b : Bool) : (s.setCs b).mem = s.mem := rfl
@[simp] theorem State.setCs_inputs (s : State) (b : Bool) : (s.setCs b).inputs = s.inputs := rfl
@[simp] theorem State.setCs_outside (s : State) (b : Bool) : (s.setCs b).outside = s.outside := rfl
@[simp] theorem State.setCs_freeCount (s : State) (b : Bool) : (s.setCs b).freeCount = s.freeCount := rfl
@[simp] theorem State.setCs_cfg (s : State) (b : Bool) : (s.setCs b).cfg = s.cfg := rfl

/-! ### `setBo` -/

@[simp] theorem State.setBo_regs (s : State) (b : Bool) : (s.setBo b).regs = s.regs := rfl
@[simp] theorem State.setBo_fregs (s : State) (b : Bool) : (s.setBo b).fregs = s.fregs := rfl
@[simp] theorem State.setBo_pc (s : State) (b : Bool) : (s.setBo b).pc = s.pc := rfl
@[simp] theorem State.setBo_sr (s : State) (b : Bool) : (s.setBo b).sr = withBit s.sr 14 b := rfl
@[simp] theorem State.setBo_gbr (s : State) (b : Bool) : (s.setBo b).gbr = s.gbr := rfl
@[simp] theorem State.setBo_vbr (s : State) (b : Bool) : (s.setBo b).vbr = s.vbr := rfl
@[simp] theorem State.setBo_tbr (s : State) (b : Bool) : (s.setBo b).tbr = s.tbr := rfl
@[simp] theorem State.setBo_mach (s : State) (b : Bool) : (s.setBo b).mach = s.mach := rfl
@[simp] theorem State.setBo_macl (s : State) (b : Bool) : (s.setBo b).macl = s.macl := rfl
@[simp] theorem State.setBo_pr (s : State) (b : Bool) : (s.setBo b).pr = s.pr := rfl
@[simp] theorem State.setBo_fpul (s : State) (b : Bool) : (s.setBo b).fpul = s.fpul := rfl
@[simp] theorem State.setBo_fpscr (s : State) (b : Bool) : (s.setBo b).fpscr = s.fpscr := rfl
@[simp] theorem State.setBo_slot (s : State) (b : Bool) : (s.setBo b).slot = s.slot := rfl
@[simp] theorem State.setBo_held (s : State) (b : Bool) : (s.setBo b).held = s.held := rfl
@[simp] theorem State.setBo_power (s : State) (b : Bool) : (s.setBo b).power = s.power := rfl
@[simp] theorem State.setBo_banks (s : State) (b : Bool) : (s.setBo b).banks = s.banks := rfl
@[simp] theorem State.setBo_bn (s : State) (b : Bool) : (s.setBo b).bn = s.bn := rfl
@[simp] theorem State.setBo_ibcr (s : State) (b : Bool) : (s.setBo b).ibcr = s.ibcr := rfl
@[simp] theorem State.setBo_ibnrBe (s : State) (b : Bool) : (s.setBo b).ibnrBe = s.ibnrBe := rfl
@[simp] theorem State.setBo_ibnrBove (s : State) (b : Bool) : (s.setBo b).ibnrBove = s.ibnrBove := rfl
@[simp] theorem State.setBo_fpuStopped (s : State) (b : Bool) : (s.setBo b).fpuStopped = s.fpuStopped := rfl
@[simp] theorem State.setBo_mem (s : State) (b : Bool) : (s.setBo b).mem = s.mem := rfl
@[simp] theorem State.setBo_inputs (s : State) (b : Bool) : (s.setBo b).inputs = s.inputs := rfl
@[simp] theorem State.setBo_outside (s : State) (b : Bool) : (s.setBo b).outside = s.outside := rfl
@[simp] theorem State.setBo_freeCount (s : State) (b : Bool) : (s.setBo b).freeCount = s.freeCount := rfl
@[simp] theorem State.setBo_cfg (s : State) (b : Bool) : (s.setBo b).cfg = s.cfg := rfl

/-! ### `setImask` -/

@[simp] theorem State.setImask_regs (s : State) (l : BitVec 4) : (s.setImask l).regs = s.regs := rfl
@[simp] theorem State.setImask_fregs (s : State) (l : BitVec 4) : (s.setImask l).fregs = s.fregs := rfl
@[simp] theorem State.setImask_pc (s : State) (l : BitVec 4) : (s.setImask l).pc = s.pc := rfl
@[simp] theorem State.setImask_sr (s : State) (l : BitVec 4) : (s.setImask l).sr = (s.sr &&& ~~~(0xF0#32)) ||| (l.setWidth 32 <<< 4) := rfl
@[simp] theorem State.setImask_gbr (s : State) (l : BitVec 4) : (s.setImask l).gbr = s.gbr := rfl
@[simp] theorem State.setImask_vbr (s : State) (l : BitVec 4) : (s.setImask l).vbr = s.vbr := rfl
@[simp] theorem State.setImask_tbr (s : State) (l : BitVec 4) : (s.setImask l).tbr = s.tbr := rfl
@[simp] theorem State.setImask_mach (s : State) (l : BitVec 4) : (s.setImask l).mach = s.mach := rfl
@[simp] theorem State.setImask_macl (s : State) (l : BitVec 4) : (s.setImask l).macl = s.macl := rfl
@[simp] theorem State.setImask_pr (s : State) (l : BitVec 4) : (s.setImask l).pr = s.pr := rfl
@[simp] theorem State.setImask_fpul (s : State) (l : BitVec 4) : (s.setImask l).fpul = s.fpul := rfl
@[simp] theorem State.setImask_fpscr (s : State) (l : BitVec 4) : (s.setImask l).fpscr = s.fpscr := rfl
@[simp] theorem State.setImask_slot (s : State) (l : BitVec 4) : (s.setImask l).slot = s.slot := rfl
@[simp] theorem State.setImask_held (s : State) (l : BitVec 4) : (s.setImask l).held = s.held := rfl
@[simp] theorem State.setImask_power (s : State) (l : BitVec 4) : (s.setImask l).power = s.power := rfl
@[simp] theorem State.setImask_banks (s : State) (l : BitVec 4) : (s.setImask l).banks = s.banks := rfl
@[simp] theorem State.setImask_bn (s : State) (l : BitVec 4) : (s.setImask l).bn = s.bn := rfl
@[simp] theorem State.setImask_ibcr (s : State) (l : BitVec 4) : (s.setImask l).ibcr = s.ibcr := rfl
@[simp] theorem State.setImask_ibnrBe (s : State) (l : BitVec 4) : (s.setImask l).ibnrBe = s.ibnrBe := rfl
@[simp] theorem State.setImask_ibnrBove (s : State) (l : BitVec 4) : (s.setImask l).ibnrBove = s.ibnrBove := rfl
@[simp] theorem State.setImask_fpuStopped (s : State) (l : BitVec 4) : (s.setImask l).fpuStopped = s.fpuStopped := rfl
@[simp] theorem State.setImask_mem (s : State) (l : BitVec 4) : (s.setImask l).mem = s.mem := rfl
@[simp] theorem State.setImask_inputs (s : State) (l : BitVec 4) : (s.setImask l).inputs = s.inputs := rfl
@[simp] theorem State.setImask_outside (s : State) (l : BitVec 4) : (s.setImask l).outside = s.outside := rfl
@[simp] theorem State.setImask_freeCount (s : State) (l : BitVec 4) : (s.setImask l).freeCount = s.freeCount := rfl
@[simp] theorem State.setImask_cfg (s : State) (l : BitVec 4) : (s.setImask l).cfg = s.cfg := rfl

/-! ### `setGbr` -/

@[simp] theorem State.setGbr_regs (s : State) (v : Word) : (s.setGbr v).regs = s.regs := rfl
@[simp] theorem State.setGbr_fregs (s : State) (v : Word) : (s.setGbr v).fregs = s.fregs := rfl
@[simp] theorem State.setGbr_pc (s : State) (v : Word) : (s.setGbr v).pc = s.pc := rfl
@[simp] theorem State.setGbr_sr (s : State) (v : Word) : (s.setGbr v).sr = s.sr := rfl
@[simp] theorem State.setGbr_gbr (s : State) (v : Word) : (s.setGbr v).gbr = v := rfl
@[simp] theorem State.setGbr_vbr (s : State) (v : Word) : (s.setGbr v).vbr = s.vbr := rfl
@[simp] theorem State.setGbr_tbr (s : State) (v : Word) : (s.setGbr v).tbr = s.tbr := rfl
@[simp] theorem State.setGbr_mach (s : State) (v : Word) : (s.setGbr v).mach = s.mach := rfl
@[simp] theorem State.setGbr_macl (s : State) (v : Word) : (s.setGbr v).macl = s.macl := rfl
@[simp] theorem State.setGbr_pr (s : State) (v : Word) : (s.setGbr v).pr = s.pr := rfl
@[simp] theorem State.setGbr_fpul (s : State) (v : Word) : (s.setGbr v).fpul = s.fpul := rfl
@[simp] theorem State.setGbr_fpscr (s : State) (v : Word) : (s.setGbr v).fpscr = s.fpscr := rfl
@[simp] theorem State.setGbr_slot (s : State) (v : Word) : (s.setGbr v).slot = s.slot := rfl
@[simp] theorem State.setGbr_held (s : State) (v : Word) : (s.setGbr v).held = s.held := rfl
@[simp] theorem State.setGbr_power (s : State) (v : Word) : (s.setGbr v).power = s.power := rfl
@[simp] theorem State.setGbr_banks (s : State) (v : Word) : (s.setGbr v).banks = s.banks := rfl
@[simp] theorem State.setGbr_bn (s : State) (v : Word) : (s.setGbr v).bn = s.bn := rfl
@[simp] theorem State.setGbr_ibcr (s : State) (v : Word) : (s.setGbr v).ibcr = s.ibcr := rfl
@[simp] theorem State.setGbr_ibnrBe (s : State) (v : Word) : (s.setGbr v).ibnrBe = s.ibnrBe := rfl
@[simp] theorem State.setGbr_ibnrBove (s : State) (v : Word) : (s.setGbr v).ibnrBove = s.ibnrBove := rfl
@[simp] theorem State.setGbr_fpuStopped (s : State) (v : Word) : (s.setGbr v).fpuStopped = s.fpuStopped := rfl
@[simp] theorem State.setGbr_mem (s : State) (v : Word) : (s.setGbr v).mem = s.mem := rfl
@[simp] theorem State.setGbr_inputs (s : State) (v : Word) : (s.setGbr v).inputs = s.inputs := rfl
@[simp] theorem State.setGbr_outside (s : State) (v : Word) : (s.setGbr v).outside = s.outside := rfl
@[simp] theorem State.setGbr_freeCount (s : State) (v : Word) : (s.setGbr v).freeCount = s.freeCount := rfl
@[simp] theorem State.setGbr_cfg (s : State) (v : Word) : (s.setGbr v).cfg = s.cfg := rfl

/-! ### `setVbr` -/

@[simp] theorem State.setVbr_regs (s : State) (v : Word) : (s.setVbr v).regs = s.regs := rfl
@[simp] theorem State.setVbr_fregs (s : State) (v : Word) : (s.setVbr v).fregs = s.fregs := rfl
@[simp] theorem State.setVbr_pc (s : State) (v : Word) : (s.setVbr v).pc = s.pc := rfl
@[simp] theorem State.setVbr_sr (s : State) (v : Word) : (s.setVbr v).sr = s.sr := rfl
@[simp] theorem State.setVbr_gbr (s : State) (v : Word) : (s.setVbr v).gbr = s.gbr := rfl
@[simp] theorem State.setVbr_vbr (s : State) (v : Word) : (s.setVbr v).vbr = v := rfl
@[simp] theorem State.setVbr_tbr (s : State) (v : Word) : (s.setVbr v).tbr = s.tbr := rfl
@[simp] theorem State.setVbr_mach (s : State) (v : Word) : (s.setVbr v).mach = s.mach := rfl
@[simp] theorem State.setVbr_macl (s : State) (v : Word) : (s.setVbr v).macl = s.macl := rfl
@[simp] theorem State.setVbr_pr (s : State) (v : Word) : (s.setVbr v).pr = s.pr := rfl
@[simp] theorem State.setVbr_fpul (s : State) (v : Word) : (s.setVbr v).fpul = s.fpul := rfl
@[simp] theorem State.setVbr_fpscr (s : State) (v : Word) : (s.setVbr v).fpscr = s.fpscr := rfl
@[simp] theorem State.setVbr_slot (s : State) (v : Word) : (s.setVbr v).slot = s.slot := rfl
@[simp] theorem State.setVbr_held (s : State) (v : Word) : (s.setVbr v).held = s.held := rfl
@[simp] theorem State.setVbr_power (s : State) (v : Word) : (s.setVbr v).power = s.power := rfl
@[simp] theorem State.setVbr_banks (s : State) (v : Word) : (s.setVbr v).banks = s.banks := rfl
@[simp] theorem State.setVbr_bn (s : State) (v : Word) : (s.setVbr v).bn = s.bn := rfl
@[simp] theorem State.setVbr_ibcr (s : State) (v : Word) : (s.setVbr v).ibcr = s.ibcr := rfl
@[simp] theorem State.setVbr_ibnrBe (s : State) (v : Word) : (s.setVbr v).ibnrBe = s.ibnrBe := rfl
@[simp] theorem State.setVbr_ibnrBove (s : State) (v : Word) : (s.setVbr v).ibnrBove = s.ibnrBove := rfl
@[simp] theorem State.setVbr_fpuStopped (s : State) (v : Word) : (s.setVbr v).fpuStopped = s.fpuStopped := rfl
@[simp] theorem State.setVbr_mem (s : State) (v : Word) : (s.setVbr v).mem = s.mem := rfl
@[simp] theorem State.setVbr_inputs (s : State) (v : Word) : (s.setVbr v).inputs = s.inputs := rfl
@[simp] theorem State.setVbr_outside (s : State) (v : Word) : (s.setVbr v).outside = s.outside := rfl
@[simp] theorem State.setVbr_freeCount (s : State) (v : Word) : (s.setVbr v).freeCount = s.freeCount := rfl
@[simp] theorem State.setVbr_cfg (s : State) (v : Word) : (s.setVbr v).cfg = s.cfg := rfl

/-! ### `setTbr` -/

@[simp] theorem State.setTbr_regs (s : State) (v : Word) : (s.setTbr v).regs = s.regs := rfl
@[simp] theorem State.setTbr_fregs (s : State) (v : Word) : (s.setTbr v).fregs = s.fregs := rfl
@[simp] theorem State.setTbr_pc (s : State) (v : Word) : (s.setTbr v).pc = s.pc := rfl
@[simp] theorem State.setTbr_sr (s : State) (v : Word) : (s.setTbr v).sr = s.sr := rfl
@[simp] theorem State.setTbr_gbr (s : State) (v : Word) : (s.setTbr v).gbr = s.gbr := rfl
@[simp] theorem State.setTbr_vbr (s : State) (v : Word) : (s.setTbr v).vbr = s.vbr := rfl
@[simp] theorem State.setTbr_tbr (s : State) (v : Word) : (s.setTbr v).tbr = v := rfl
@[simp] theorem State.setTbr_mach (s : State) (v : Word) : (s.setTbr v).mach = s.mach := rfl
@[simp] theorem State.setTbr_macl (s : State) (v : Word) : (s.setTbr v).macl = s.macl := rfl
@[simp] theorem State.setTbr_pr (s : State) (v : Word) : (s.setTbr v).pr = s.pr := rfl
@[simp] theorem State.setTbr_fpul (s : State) (v : Word) : (s.setTbr v).fpul = s.fpul := rfl
@[simp] theorem State.setTbr_fpscr (s : State) (v : Word) : (s.setTbr v).fpscr = s.fpscr := rfl
@[simp] theorem State.setTbr_slot (s : State) (v : Word) : (s.setTbr v).slot = s.slot := rfl
@[simp] theorem State.setTbr_held (s : State) (v : Word) : (s.setTbr v).held = s.held := rfl
@[simp] theorem State.setTbr_power (s : State) (v : Word) : (s.setTbr v).power = s.power := rfl
@[simp] theorem State.setTbr_banks (s : State) (v : Word) : (s.setTbr v).banks = s.banks := rfl
@[simp] theorem State.setTbr_bn (s : State) (v : Word) : (s.setTbr v).bn = s.bn := rfl
@[simp] theorem State.setTbr_ibcr (s : State) (v : Word) : (s.setTbr v).ibcr = s.ibcr := rfl
@[simp] theorem State.setTbr_ibnrBe (s : State) (v : Word) : (s.setTbr v).ibnrBe = s.ibnrBe := rfl
@[simp] theorem State.setTbr_ibnrBove (s : State) (v : Word) : (s.setTbr v).ibnrBove = s.ibnrBove := rfl
@[simp] theorem State.setTbr_fpuStopped (s : State) (v : Word) : (s.setTbr v).fpuStopped = s.fpuStopped := rfl
@[simp] theorem State.setTbr_mem (s : State) (v : Word) : (s.setTbr v).mem = s.mem := rfl
@[simp] theorem State.setTbr_inputs (s : State) (v : Word) : (s.setTbr v).inputs = s.inputs := rfl
@[simp] theorem State.setTbr_outside (s : State) (v : Word) : (s.setTbr v).outside = s.outside := rfl
@[simp] theorem State.setTbr_freeCount (s : State) (v : Word) : (s.setTbr v).freeCount = s.freeCount := rfl
@[simp] theorem State.setTbr_cfg (s : State) (v : Word) : (s.setTbr v).cfg = s.cfg := rfl

/-! ### `setMach` -/

@[simp] theorem State.setMach_regs (s : State) (v : Word) : (s.setMach v).regs = s.regs := rfl
@[simp] theorem State.setMach_fregs (s : State) (v : Word) : (s.setMach v).fregs = s.fregs := rfl
@[simp] theorem State.setMach_pc (s : State) (v : Word) : (s.setMach v).pc = s.pc := rfl
@[simp] theorem State.setMach_sr (s : State) (v : Word) : (s.setMach v).sr = s.sr := rfl
@[simp] theorem State.setMach_gbr (s : State) (v : Word) : (s.setMach v).gbr = s.gbr := rfl
@[simp] theorem State.setMach_vbr (s : State) (v : Word) : (s.setMach v).vbr = s.vbr := rfl
@[simp] theorem State.setMach_tbr (s : State) (v : Word) : (s.setMach v).tbr = s.tbr := rfl
@[simp] theorem State.setMach_mach (s : State) (v : Word) : (s.setMach v).mach = v := rfl
@[simp] theorem State.setMach_macl (s : State) (v : Word) : (s.setMach v).macl = s.macl := rfl
@[simp] theorem State.setMach_pr (s : State) (v : Word) : (s.setMach v).pr = s.pr := rfl
@[simp] theorem State.setMach_fpul (s : State) (v : Word) : (s.setMach v).fpul = s.fpul := rfl
@[simp] theorem State.setMach_fpscr (s : State) (v : Word) : (s.setMach v).fpscr = s.fpscr := rfl
@[simp] theorem State.setMach_slot (s : State) (v : Word) : (s.setMach v).slot = s.slot := rfl
@[simp] theorem State.setMach_held (s : State) (v : Word) : (s.setMach v).held = s.held := rfl
@[simp] theorem State.setMach_power (s : State) (v : Word) : (s.setMach v).power = s.power := rfl
@[simp] theorem State.setMach_banks (s : State) (v : Word) : (s.setMach v).banks = s.banks := rfl
@[simp] theorem State.setMach_bn (s : State) (v : Word) : (s.setMach v).bn = s.bn := rfl
@[simp] theorem State.setMach_ibcr (s : State) (v : Word) : (s.setMach v).ibcr = s.ibcr := rfl
@[simp] theorem State.setMach_ibnrBe (s : State) (v : Word) : (s.setMach v).ibnrBe = s.ibnrBe := rfl
@[simp] theorem State.setMach_ibnrBove (s : State) (v : Word) : (s.setMach v).ibnrBove = s.ibnrBove := rfl
@[simp] theorem State.setMach_fpuStopped (s : State) (v : Word) : (s.setMach v).fpuStopped = s.fpuStopped := rfl
@[simp] theorem State.setMach_mem (s : State) (v : Word) : (s.setMach v).mem = s.mem := rfl
@[simp] theorem State.setMach_inputs (s : State) (v : Word) : (s.setMach v).inputs = s.inputs := rfl
@[simp] theorem State.setMach_outside (s : State) (v : Word) : (s.setMach v).outside = s.outside := rfl
@[simp] theorem State.setMach_freeCount (s : State) (v : Word) : (s.setMach v).freeCount = s.freeCount := rfl
@[simp] theorem State.setMach_cfg (s : State) (v : Word) : (s.setMach v).cfg = s.cfg := rfl

/-! ### `setMacl` -/

@[simp] theorem State.setMacl_regs (s : State) (v : Word) : (s.setMacl v).regs = s.regs := rfl
@[simp] theorem State.setMacl_fregs (s : State) (v : Word) : (s.setMacl v).fregs = s.fregs := rfl
@[simp] theorem State.setMacl_pc (s : State) (v : Word) : (s.setMacl v).pc = s.pc := rfl
@[simp] theorem State.setMacl_sr (s : State) (v : Word) : (s.setMacl v).sr = s.sr := rfl
@[simp] theorem State.setMacl_gbr (s : State) (v : Word) : (s.setMacl v).gbr = s.gbr := rfl
@[simp] theorem State.setMacl_vbr (s : State) (v : Word) : (s.setMacl v).vbr = s.vbr := rfl
@[simp] theorem State.setMacl_tbr (s : State) (v : Word) : (s.setMacl v).tbr = s.tbr := rfl
@[simp] theorem State.setMacl_mach (s : State) (v : Word) : (s.setMacl v).mach = s.mach := rfl
@[simp] theorem State.setMacl_macl (s : State) (v : Word) : (s.setMacl v).macl = v := rfl
@[simp] theorem State.setMacl_pr (s : State) (v : Word) : (s.setMacl v).pr = s.pr := rfl
@[simp] theorem State.setMacl_fpul (s : State) (v : Word) : (s.setMacl v).fpul = s.fpul := rfl
@[simp] theorem State.setMacl_fpscr (s : State) (v : Word) : (s.setMacl v).fpscr = s.fpscr := rfl
@[simp] theorem State.setMacl_slot (s : State) (v : Word) : (s.setMacl v).slot = s.slot := rfl
@[simp] theorem State.setMacl_held (s : State) (v : Word) : (s.setMacl v).held = s.held := rfl
@[simp] theorem State.setMacl_power (s : State) (v : Word) : (s.setMacl v).power = s.power := rfl
@[simp] theorem State.setMacl_banks (s : State) (v : Word) : (s.setMacl v).banks = s.banks := rfl
@[simp] theorem State.setMacl_bn (s : State) (v : Word) : (s.setMacl v).bn = s.bn := rfl
@[simp] theorem State.setMacl_ibcr (s : State) (v : Word) : (s.setMacl v).ibcr = s.ibcr := rfl
@[simp] theorem State.setMacl_ibnrBe (s : State) (v : Word) : (s.setMacl v).ibnrBe = s.ibnrBe := rfl
@[simp] theorem State.setMacl_ibnrBove (s : State) (v : Word) : (s.setMacl v).ibnrBove = s.ibnrBove := rfl
@[simp] theorem State.setMacl_fpuStopped (s : State) (v : Word) : (s.setMacl v).fpuStopped = s.fpuStopped := rfl
@[simp] theorem State.setMacl_mem (s : State) (v : Word) : (s.setMacl v).mem = s.mem := rfl
@[simp] theorem State.setMacl_inputs (s : State) (v : Word) : (s.setMacl v).inputs = s.inputs := rfl
@[simp] theorem State.setMacl_outside (s : State) (v : Word) : (s.setMacl v).outside = s.outside := rfl
@[simp] theorem State.setMacl_freeCount (s : State) (v : Word) : (s.setMacl v).freeCount = s.freeCount := rfl
@[simp] theorem State.setMacl_cfg (s : State) (v : Word) : (s.setMacl v).cfg = s.cfg := rfl

/-! ### `setPr` -/

@[simp] theorem State.setPr_regs (s : State) (v : Word) : (s.setPr v).regs = s.regs := rfl
@[simp] theorem State.setPr_fregs (s : State) (v : Word) : (s.setPr v).fregs = s.fregs := rfl
@[simp] theorem State.setPr_pc (s : State) (v : Word) : (s.setPr v).pc = s.pc := rfl
@[simp] theorem State.setPr_sr (s : State) (v : Word) : (s.setPr v).sr = s.sr := rfl
@[simp] theorem State.setPr_gbr (s : State) (v : Word) : (s.setPr v).gbr = s.gbr := rfl
@[simp] theorem State.setPr_vbr (s : State) (v : Word) : (s.setPr v).vbr = s.vbr := rfl
@[simp] theorem State.setPr_tbr (s : State) (v : Word) : (s.setPr v).tbr = s.tbr := rfl
@[simp] theorem State.setPr_mach (s : State) (v : Word) : (s.setPr v).mach = s.mach := rfl
@[simp] theorem State.setPr_macl (s : State) (v : Word) : (s.setPr v).macl = s.macl := rfl
@[simp] theorem State.setPr_pr (s : State) (v : Word) : (s.setPr v).pr = v := rfl
@[simp] theorem State.setPr_fpul (s : State) (v : Word) : (s.setPr v).fpul = s.fpul := rfl
@[simp] theorem State.setPr_fpscr (s : State) (v : Word) : (s.setPr v).fpscr = s.fpscr := rfl
@[simp] theorem State.setPr_slot (s : State) (v : Word) : (s.setPr v).slot = s.slot := rfl
@[simp] theorem State.setPr_held (s : State) (v : Word) : (s.setPr v).held = s.held := rfl
@[simp] theorem State.setPr_power (s : State) (v : Word) : (s.setPr v).power = s.power := rfl
@[simp] theorem State.setPr_banks (s : State) (v : Word) : (s.setPr v).banks = s.banks := rfl
@[simp] theorem State.setPr_bn (s : State) (v : Word) : (s.setPr v).bn = s.bn := rfl
@[simp] theorem State.setPr_ibcr (s : State) (v : Word) : (s.setPr v).ibcr = s.ibcr := rfl
@[simp] theorem State.setPr_ibnrBe (s : State) (v : Word) : (s.setPr v).ibnrBe = s.ibnrBe := rfl
@[simp] theorem State.setPr_ibnrBove (s : State) (v : Word) : (s.setPr v).ibnrBove = s.ibnrBove := rfl
@[simp] theorem State.setPr_fpuStopped (s : State) (v : Word) : (s.setPr v).fpuStopped = s.fpuStopped := rfl
@[simp] theorem State.setPr_mem (s : State) (v : Word) : (s.setPr v).mem = s.mem := rfl
@[simp] theorem State.setPr_inputs (s : State) (v : Word) : (s.setPr v).inputs = s.inputs := rfl
@[simp] theorem State.setPr_outside (s : State) (v : Word) : (s.setPr v).outside = s.outside := rfl
@[simp] theorem State.setPr_freeCount (s : State) (v : Word) : (s.setPr v).freeCount = s.freeCount := rfl
@[simp] theorem State.setPr_cfg (s : State) (v : Word) : (s.setPr v).cfg = s.cfg := rfl

/-! ### `link` -/

@[simp] theorem State.link_regs (s : State) (v : Word) : (s.link v).regs = s.regs := rfl
@[simp] theorem State.link_fregs (s : State) (v : Word) : (s.link v).fregs = s.fregs := rfl
@[simp] theorem State.link_pc (s : State) (v : Word) : (s.link v).pc = s.pc := rfl
@[simp] theorem State.link_sr (s : State) (v : Word) : (s.link v).sr = s.sr := rfl
@[simp] theorem State.link_gbr (s : State) (v : Word) : (s.link v).gbr = s.gbr := rfl
@[simp] theorem State.link_vbr (s : State) (v : Word) : (s.link v).vbr = s.vbr := rfl
@[simp] theorem State.link_tbr (s : State) (v : Word) : (s.link v).tbr = s.tbr := rfl
@[simp] theorem State.link_mach (s : State) (v : Word) : (s.link v).mach = s.mach := rfl
@[simp] theorem State.link_macl (s : State) (v : Word) : (s.link v).macl = s.macl := rfl
@[simp] theorem State.link_pr (s : State) (v : Word) : (s.link v).pr = v := rfl
@[simp] theorem State.link_fpul (s : State) (v : Word) : (s.link v).fpul = s.fpul := rfl
@[simp] theorem State.link_fpscr (s : State) (v : Word) : (s.link v).fpscr = s.fpscr := rfl
@[simp] theorem State.link_slot (s : State) (v : Word) : (s.link v).slot = s.slot := rfl
@[simp] theorem State.link_held (s : State) (v : Word) : (s.link v).held = s.held := rfl
@[simp] theorem State.link_power (s : State) (v : Word) : (s.link v).power = s.power := rfl
@[simp] theorem State.link_banks (s : State) (v : Word) : (s.link v).banks = s.banks := rfl
@[simp] theorem State.link_bn (s : State) (v : Word) : (s.link v).bn = s.bn := rfl
@[simp] theorem State.link_ibcr (s : State) (v : Word) : (s.link v).ibcr = s.ibcr := rfl
@[simp] theorem State.link_ibnrBe (s : State) (v : Word) : (s.link v).ibnrBe = s.ibnrBe := rfl
@[simp] theorem State.link_ibnrBove (s : State) (v : Word) : (s.link v).ibnrBove = s.ibnrBove := rfl
@[simp] theorem State.link_fpuStopped (s : State) (v : Word) : (s.link v).fpuStopped = s.fpuStopped := rfl
@[simp] theorem State.link_mem (s : State) (v : Word) : (s.link v).mem = s.mem := rfl
@[simp] theorem State.link_inputs (s : State) (v : Word) : (s.link v).inputs = s.inputs := rfl
@[simp] theorem State.link_outside (s : State) (v : Word) : (s.link v).outside = s.outside := rfl
@[simp] theorem State.link_freeCount (s : State) (v : Word) : (s.link v).freeCount = s.freeCount := rfl
@[simp] theorem State.link_cfg (s : State) (v : Word) : (s.link v).cfg = s.cfg := rfl

/-! ### `setMac` -/

@[simp] theorem State.setMac_regs (s : State) (v : Quad) : (s.setMac v).regs = s.regs := rfl
@[simp] theorem State.setMac_fregs (s : State) (v : Quad) : (s.setMac v).fregs = s.fregs := rfl
@[simp] theorem State.setMac_pc (s : State) (v : Quad) : (s.setMac v).pc = s.pc := rfl
@[simp] theorem State.setMac_sr (s : State) (v : Quad) : (s.setMac v).sr = s.sr := rfl
@[simp] theorem State.setMac_gbr (s : State) (v : Quad) : (s.setMac v).gbr = s.gbr := rfl
@[simp] theorem State.setMac_vbr (s : State) (v : Quad) : (s.setMac v).vbr = s.vbr := rfl
@[simp] theorem State.setMac_tbr (s : State) (v : Quad) : (s.setMac v).tbr = s.tbr := rfl
@[simp] theorem State.setMac_mach (s : State) (v : Quad) : (s.setMac v).mach = highWord v := rfl
@[simp] theorem State.setMac_macl (s : State) (v : Quad) : (s.setMac v).macl = lowWord v := rfl
@[simp] theorem State.setMac_pr (s : State) (v : Quad) : (s.setMac v).pr = s.pr := rfl
@[simp] theorem State.setMac_fpul (s : State) (v : Quad) : (s.setMac v).fpul = s.fpul := rfl
@[simp] theorem State.setMac_fpscr (s : State) (v : Quad) : (s.setMac v).fpscr = s.fpscr := rfl
@[simp] theorem State.setMac_slot (s : State) (v : Quad) : (s.setMac v).slot = s.slot := rfl
@[simp] theorem State.setMac_held (s : State) (v : Quad) : (s.setMac v).held = s.held := rfl
@[simp] theorem State.setMac_power (s : State) (v : Quad) : (s.setMac v).power = s.power := rfl
@[simp] theorem State.setMac_banks (s : State) (v : Quad) : (s.setMac v).banks = s.banks := rfl
@[simp] theorem State.setMac_bn (s : State) (v : Quad) : (s.setMac v).bn = s.bn := rfl
@[simp] theorem State.setMac_ibcr (s : State) (v : Quad) : (s.setMac v).ibcr = s.ibcr := rfl
@[simp] theorem State.setMac_ibnrBe (s : State) (v : Quad) : (s.setMac v).ibnrBe = s.ibnrBe := rfl
@[simp] theorem State.setMac_ibnrBove (s : State) (v : Quad) : (s.setMac v).ibnrBove = s.ibnrBove := rfl
@[simp] theorem State.setMac_fpuStopped (s : State) (v : Quad) : (s.setMac v).fpuStopped = s.fpuStopped := rfl
@[simp] theorem State.setMac_mem (s : State) (v : Quad) : (s.setMac v).mem = s.mem := rfl
@[simp] theorem State.setMac_inputs (s : State) (v : Quad) : (s.setMac v).inputs = s.inputs := rfl
@[simp] theorem State.setMac_outside (s : State) (v : Quad) : (s.setMac v).outside = s.outside := rfl
@[simp] theorem State.setMac_freeCount (s : State) (v : Quad) : (s.setMac v).freeCount = s.freeCount := rfl
@[simp] theorem State.setMac_cfg (s : State) (v : Quad) : (s.setMac v).cfg = s.cfg := rfl

/-! ### `setFpul` -/

@[simp] theorem State.setFpul_regs (s : State) (v : Word) : (s.setFpul v).regs = s.regs := rfl
@[simp] theorem State.setFpul_fregs (s : State) (v : Word) : (s.setFpul v).fregs = s.fregs := rfl
@[simp] theorem State.setFpul_pc (s : State) (v : Word) : (s.setFpul v).pc = s.pc := rfl
@[simp] theorem State.setFpul_sr (s : State) (v : Word) : (s.setFpul v).sr = s.sr := rfl
@[simp] theorem State.setFpul_gbr (s : State) (v : Word) : (s.setFpul v).gbr = s.gbr := rfl
@[simp] theorem State.setFpul_vbr (s : State) (v : Word) : (s.setFpul v).vbr = s.vbr := rfl
@[simp] theorem State.setFpul_tbr (s : State) (v : Word) : (s.setFpul v).tbr = s.tbr := rfl
@[simp] theorem State.setFpul_mach (s : State) (v : Word) : (s.setFpul v).mach = s.mach := rfl
@[simp] theorem State.setFpul_macl (s : State) (v : Word) : (s.setFpul v).macl = s.macl := rfl
@[simp] theorem State.setFpul_pr (s : State) (v : Word) : (s.setFpul v).pr = s.pr := rfl
@[simp] theorem State.setFpul_fpul (s : State) (v : Word) : (s.setFpul v).fpul = v := rfl
@[simp] theorem State.setFpul_fpscr (s : State) (v : Word) : (s.setFpul v).fpscr = s.fpscr := rfl
@[simp] theorem State.setFpul_slot (s : State) (v : Word) : (s.setFpul v).slot = s.slot := rfl
@[simp] theorem State.setFpul_held (s : State) (v : Word) : (s.setFpul v).held = s.held := rfl
@[simp] theorem State.setFpul_power (s : State) (v : Word) : (s.setFpul v).power = s.power := rfl
@[simp] theorem State.setFpul_banks (s : State) (v : Word) : (s.setFpul v).banks = s.banks := rfl
@[simp] theorem State.setFpul_bn (s : State) (v : Word) : (s.setFpul v).bn = s.bn := rfl
@[simp] theorem State.setFpul_ibcr (s : State) (v : Word) : (s.setFpul v).ibcr = s.ibcr := rfl
@[simp] theorem State.setFpul_ibnrBe (s : State) (v : Word) : (s.setFpul v).ibnrBe = s.ibnrBe := rfl
@[simp] theorem State.setFpul_ibnrBove (s : State) (v : Word) : (s.setFpul v).ibnrBove = s.ibnrBove := rfl
@[simp] theorem State.setFpul_fpuStopped (s : State) (v : Word) : (s.setFpul v).fpuStopped = s.fpuStopped := rfl
@[simp] theorem State.setFpul_mem (s : State) (v : Word) : (s.setFpul v).mem = s.mem := rfl
@[simp] theorem State.setFpul_inputs (s : State) (v : Word) : (s.setFpul v).inputs = s.inputs := rfl
@[simp] theorem State.setFpul_outside (s : State) (v : Word) : (s.setFpul v).outside = s.outside := rfl
@[simp] theorem State.setFpul_freeCount (s : State) (v : Word) : (s.setFpul v).freeCount = s.freeCount := rfl
@[simp] theorem State.setFpul_cfg (s : State) (v : Word) : (s.setFpul v).cfg = s.cfg := rfl

/-! ### `setFpscr` -/

@[simp] theorem State.setFpscr_regs (s : State) (v : Word) : (s.setFpscr v).regs = s.regs := rfl
@[simp] theorem State.setFpscr_fregs (s : State) (v : Word) : (s.setFpscr v).fregs = s.fregs := rfl
@[simp] theorem State.setFpscr_pc (s : State) (v : Word) : (s.setFpscr v).pc = s.pc := rfl
@[simp] theorem State.setFpscr_sr (s : State) (v : Word) : (s.setFpscr v).sr = s.sr := rfl
@[simp] theorem State.setFpscr_gbr (s : State) (v : Word) : (s.setFpscr v).gbr = s.gbr := rfl
@[simp] theorem State.setFpscr_vbr (s : State) (v : Word) : (s.setFpscr v).vbr = s.vbr := rfl
@[simp] theorem State.setFpscr_tbr (s : State) (v : Word) : (s.setFpscr v).tbr = s.tbr := rfl
@[simp] theorem State.setFpscr_mach (s : State) (v : Word) : (s.setFpscr v).mach = s.mach := rfl
@[simp] theorem State.setFpscr_macl (s : State) (v : Word) : (s.setFpscr v).macl = s.macl := rfl
@[simp] theorem State.setFpscr_pr (s : State) (v : Word) : (s.setFpscr v).pr = s.pr := rfl
@[simp] theorem State.setFpscr_fpul (s : State) (v : Word) : (s.setFpscr v).fpul = s.fpul := rfl
@[simp] theorem State.setFpscr_fpscr (s : State) (v : Word) : (s.setFpscr v).fpscr = v &&& s.cfg.fpscrMask := rfl
@[simp] theorem State.setFpscr_slot (s : State) (v : Word) : (s.setFpscr v).slot = s.slot := rfl
@[simp] theorem State.setFpscr_held (s : State) (v : Word) : (s.setFpscr v).held = s.held := rfl
@[simp] theorem State.setFpscr_power (s : State) (v : Word) : (s.setFpscr v).power = s.power := rfl
@[simp] theorem State.setFpscr_banks (s : State) (v : Word) : (s.setFpscr v).banks = s.banks := rfl
@[simp] theorem State.setFpscr_bn (s : State) (v : Word) : (s.setFpscr v).bn = s.bn := rfl
@[simp] theorem State.setFpscr_ibcr (s : State) (v : Word) : (s.setFpscr v).ibcr = s.ibcr := rfl
@[simp] theorem State.setFpscr_ibnrBe (s : State) (v : Word) : (s.setFpscr v).ibnrBe = s.ibnrBe := rfl
@[simp] theorem State.setFpscr_ibnrBove (s : State) (v : Word) : (s.setFpscr v).ibnrBove = s.ibnrBove := rfl
@[simp] theorem State.setFpscr_fpuStopped (s : State) (v : Word) : (s.setFpscr v).fpuStopped = s.fpuStopped := rfl
@[simp] theorem State.setFpscr_mem (s : State) (v : Word) : (s.setFpscr v).mem = s.mem := rfl
@[simp] theorem State.setFpscr_inputs (s : State) (v : Word) : (s.setFpscr v).inputs = s.inputs := rfl
@[simp] theorem State.setFpscr_outside (s : State) (v : Word) : (s.setFpscr v).outside = s.outside := rfl
@[simp] theorem State.setFpscr_freeCount (s : State) (v : Word) : (s.setFpscr v).freeCount = s.freeCount := rfl
@[simp] theorem State.setFpscr_cfg (s : State) (v : Word) : (s.setFpscr v).cfg = s.cfg := rfl

/-! ### `fpRaise` -/

@[simp] theorem State.fpRaise_regs (s : State) (r : Word) : (s.fpRaise r).regs = s.regs := rfl
@[simp] theorem State.fpRaise_fregs (s : State) (r : Word) : (s.fpRaise r).fregs = s.fregs := rfl
@[simp] theorem State.fpRaise_pc (s : State) (r : Word) : (s.fpRaise r).pc = s.pc := rfl
@[simp] theorem State.fpRaise_sr (s : State) (r : Word) : (s.fpRaise r).sr = s.sr := rfl
@[simp] theorem State.fpRaise_gbr (s : State) (r : Word) : (s.fpRaise r).gbr = s.gbr := rfl
@[simp] theorem State.fpRaise_vbr (s : State) (r : Word) : (s.fpRaise r).vbr = s.vbr := rfl
@[simp] theorem State.fpRaise_tbr (s : State) (r : Word) : (s.fpRaise r).tbr = s.tbr := rfl
@[simp] theorem State.fpRaise_mach (s : State) (r : Word) : (s.fpRaise r).mach = s.mach := rfl
@[simp] theorem State.fpRaise_macl (s : State) (r : Word) : (s.fpRaise r).macl = s.macl := rfl
@[simp] theorem State.fpRaise_pr (s : State) (r : Word) : (s.fpRaise r).pr = s.pr := rfl
@[simp] theorem State.fpRaise_fpul (s : State) (r : Word) : (s.fpRaise r).fpul = s.fpul := rfl
@[simp] theorem State.fpRaise_fpscr (s : State) (r : Word) : (s.fpRaise r).fpscr = (s.fpscr &&& ~~~0x0003F000) ||| r := rfl
@[simp] theorem State.fpRaise_slot (s : State) (r : Word) : (s.fpRaise r).slot = s.slot := rfl
@[simp] theorem State.fpRaise_held (s : State) (r : Word) : (s.fpRaise r).held = s.held := rfl
@[simp] theorem State.fpRaise_power (s : State) (r : Word) : (s.fpRaise r).power = s.power := rfl
@[simp] theorem State.fpRaise_banks (s : State) (r : Word) : (s.fpRaise r).banks = s.banks := rfl
@[simp] theorem State.fpRaise_bn (s : State) (r : Word) : (s.fpRaise r).bn = s.bn := rfl
@[simp] theorem State.fpRaise_ibcr (s : State) (r : Word) : (s.fpRaise r).ibcr = s.ibcr := rfl
@[simp] theorem State.fpRaise_ibnrBe (s : State) (r : Word) : (s.fpRaise r).ibnrBe = s.ibnrBe := rfl
@[simp] theorem State.fpRaise_ibnrBove (s : State) (r : Word) : (s.fpRaise r).ibnrBove = s.ibnrBove := rfl
@[simp] theorem State.fpRaise_fpuStopped (s : State) (r : Word) : (s.fpRaise r).fpuStopped = s.fpuStopped := rfl
@[simp] theorem State.fpRaise_mem (s : State) (r : Word) : (s.fpRaise r).mem = s.mem := rfl
@[simp] theorem State.fpRaise_inputs (s : State) (r : Word) : (s.fpRaise r).inputs = s.inputs := rfl
@[simp] theorem State.fpRaise_outside (s : State) (r : Word) : (s.fpRaise r).outside = s.outside := rfl
@[simp] theorem State.fpRaise_freeCount (s : State) (r : Word) : (s.fpRaise r).freeCount = s.freeCount := rfl
@[simp] theorem State.fpRaise_cfg (s : State) (r : Word) : (s.fpRaise r).cfg = s.cfg := rfl

/-! ### `drawn` -/

@[simp] theorem State.drawn_regs (s : State) (k : Nat) : (s.drawn k).regs = s.regs := rfl
@[simp] theorem State.drawn_fregs (s : State) (k : Nat) : (s.drawn k).fregs = s.fregs := rfl
@[simp] theorem State.drawn_pc (s : State) (k : Nat) : (s.drawn k).pc = s.pc := rfl
@[simp] theorem State.drawn_sr (s : State) (k : Nat) : (s.drawn k).sr = s.sr := rfl
@[simp] theorem State.drawn_gbr (s : State) (k : Nat) : (s.drawn k).gbr = s.gbr := rfl
@[simp] theorem State.drawn_vbr (s : State) (k : Nat) : (s.drawn k).vbr = s.vbr := rfl
@[simp] theorem State.drawn_tbr (s : State) (k : Nat) : (s.drawn k).tbr = s.tbr := rfl
@[simp] theorem State.drawn_mach (s : State) (k : Nat) : (s.drawn k).mach = s.mach := rfl
@[simp] theorem State.drawn_macl (s : State) (k : Nat) : (s.drawn k).macl = s.macl := rfl
@[simp] theorem State.drawn_pr (s : State) (k : Nat) : (s.drawn k).pr = s.pr := rfl
@[simp] theorem State.drawn_fpul (s : State) (k : Nat) : (s.drawn k).fpul = s.fpul := rfl
@[simp] theorem State.drawn_fpscr (s : State) (k : Nat) : (s.drawn k).fpscr = s.fpscr := rfl
@[simp] theorem State.drawn_slot (s : State) (k : Nat) : (s.drawn k).slot = s.slot := rfl
@[simp] theorem State.drawn_held (s : State) (k : Nat) : (s.drawn k).held = s.held := rfl
@[simp] theorem State.drawn_power (s : State) (k : Nat) : (s.drawn k).power = s.power := rfl
@[simp] theorem State.drawn_banks (s : State) (k : Nat) : (s.drawn k).banks = s.banks := rfl
@[simp] theorem State.drawn_bn (s : State) (k : Nat) : (s.drawn k).bn = s.bn := rfl
@[simp] theorem State.drawn_ibcr (s : State) (k : Nat) : (s.drawn k).ibcr = s.ibcr := rfl
@[simp] theorem State.drawn_ibnrBe (s : State) (k : Nat) : (s.drawn k).ibnrBe = s.ibnrBe := rfl
@[simp] theorem State.drawn_ibnrBove (s : State) (k : Nat) : (s.drawn k).ibnrBove = s.ibnrBove := rfl
@[simp] theorem State.drawn_fpuStopped (s : State) (k : Nat) : (s.drawn k).fpuStopped = s.fpuStopped := rfl
@[simp] theorem State.drawn_mem (s : State) (k : Nat) : (s.drawn k).mem = s.mem := rfl
@[simp] theorem State.drawn_inputs (s : State) (k : Nat) : (s.drawn k).inputs = s.inputs := rfl
@[simp] theorem State.drawn_outside (s : State) (k : Nat) : (s.drawn k).outside = s.outside := rfl
@[simp] theorem State.drawn_freeCount (s : State) (k : Nat) : (s.drawn k).freeCount = s.freeCount + k := rfl
@[simp] theorem State.drawn_cfg (s : State) (k : Nat) : (s.drawn k).cfg = s.cfg := rfl

/-! ### `addressError` -/

@[simp] theorem State.addressError_regs (s : State) : (s.addressError).regs = s.regs := rfl
@[simp] theorem State.addressError_fregs (s : State) : (s.addressError).fregs = s.fregs := rfl
@[simp] theorem State.addressError_pc (s : State) : (s.addressError).pc = s.pc := rfl
@[simp] theorem State.addressError_sr (s : State) : (s.addressError).sr = s.sr := rfl
@[simp] theorem State.addressError_gbr (s : State) : (s.addressError).gbr = s.gbr := rfl
@[simp] theorem State.addressError_vbr (s : State) : (s.addressError).vbr = s.vbr := rfl
@[simp] theorem State.addressError_tbr (s : State) : (s.addressError).tbr = s.tbr := rfl
@[simp] theorem State.addressError_mach (s : State) : (s.addressError).mach = s.mach := rfl
@[simp] theorem State.addressError_macl (s : State) : (s.addressError).macl = s.macl := rfl
@[simp] theorem State.addressError_pr (s : State) : (s.addressError).pr = s.pr := rfl
@[simp] theorem State.addressError_fpul (s : State) : (s.addressError).fpul = s.fpul := rfl
@[simp] theorem State.addressError_fpscr (s : State) : (s.addressError).fpscr = s.fpscr := rfl
@[simp] theorem State.addressError_slot (s : State) : (s.addressError).slot = s.slot := rfl
@[simp] theorem State.addressError_held (s : State) : (s.addressError).held = true := rfl
@[simp] theorem State.addressError_power (s : State) : (s.addressError).power = s.power := rfl
@[simp] theorem State.addressError_banks (s : State) : (s.addressError).banks = s.banks := rfl
@[simp] theorem State.addressError_bn (s : State) : (s.addressError).bn = s.bn := rfl
@[simp] theorem State.addressError_ibcr (s : State) : (s.addressError).ibcr = s.ibcr := rfl
@[simp] theorem State.addressError_ibnrBe (s : State) : (s.addressError).ibnrBe = s.ibnrBe := rfl
@[simp] theorem State.addressError_ibnrBove (s : State) : (s.addressError).ibnrBove = s.ibnrBove := rfl
@[simp] theorem State.addressError_fpuStopped (s : State) : (s.addressError).fpuStopped = s.fpuStopped := rfl
@[simp] theorem State.addressError_mem (s : State) : (s.addressError).mem = s.mem := rfl
@[simp] theorem State.addressError_inputs (s : State) : (s.addressError).inputs = s.inputs := rfl
@[simp] theorem State.addressError_outside (s : State) : (s.addressError).outside = s.outside := rfl
@[simp] theorem State.addressError_freeCount (s : State) : (s.addressError).freeCount = s.freeCount := rfl
@[simp] theorem State.addressError_cfg (s : State) : (s.addressError).cfg = s.cfg := rfl

/-! ### `goto` -/

@[simp] theorem State.goto_regs (s : State) (a : Word) : (s.goto a).regs = s.regs := rfl
@[simp] theorem State.goto_fregs (s : State) (a : Word) : (s.goto a).fregs = s.fregs := rfl
@[simp] theorem State.goto_pc (s : State) (a : Word) : (s.goto a).pc = a := rfl
@[simp] theorem State.goto_sr (s : State) (a : Word) : (s.goto a).sr = s.sr := rfl
@[simp] theorem State.goto_gbr (s : State) (a : Word) : (s.goto a).gbr = s.gbr := rfl
@[simp] theorem State.goto_vbr (s : State) (a : Word) : (s.goto a).vbr = s.vbr := rfl
@[simp] theorem State.goto_tbr (s : State) (a : Word) : (s.goto a).tbr = s.tbr := rfl
@[simp] theorem State.goto_mach (s : State) (a : Word) : (s.goto a).mach = s.mach := rfl
@[simp] theorem State.goto_macl (s : State) (a : Word) : (s.goto a).macl = s.macl := rfl
@[simp] theorem State.goto_pr (s : State) (a : Word) : (s.goto a).pr = s.pr := rfl
@[simp] theorem State.goto_fpul (s : State) (a : Word) : (s.goto a).fpul = s.fpul := rfl
@[simp] theorem State.goto_fpscr (s : State) (a : Word) : (s.goto a).fpscr = s.fpscr := rfl
@[simp] theorem State.goto_slot (s : State) (a : Word) : (s.goto a).slot = .none := rfl
@[simp] theorem State.goto_held (s : State) (a : Word) : (s.goto a).held = s.held := rfl
@[simp] theorem State.goto_power (s : State) (a : Word) : (s.goto a).power = s.power := rfl
@[simp] theorem State.goto_banks (s : State) (a : Word) : (s.goto a).banks = s.banks := rfl
@[simp] theorem State.goto_bn (s : State) (a : Word) : (s.goto a).bn = s.bn := rfl
@[simp] theorem State.goto_ibcr (s : State) (a : Word) : (s.goto a).ibcr = s.ibcr := rfl
@[simp] theorem State.goto_ibnrBe (s : State) (a : Word) : (s.goto a).ibnrBe = s.ibnrBe := rfl
@[simp] theorem State.goto_ibnrBove (s : State) (a : Word) : (s.goto a).ibnrBove = s.ibnrBove := rfl
@[simp] theorem State.goto_fpuStopped (s : State) (a : Word) : (s.goto a).fpuStopped = s.fpuStopped := rfl
@[simp] theorem State.goto_mem (s : State) (a : Word) : (s.goto a).mem = s.mem := rfl
@[simp] theorem State.goto_inputs (s : State) (a : Word) : (s.goto a).inputs = s.inputs := rfl
@[simp] theorem State.goto_outside (s : State) (a : Word) : (s.goto a).outside = s.outside := rfl
@[simp] theorem State.goto_freeCount (s : State) (a : Word) : (s.goto a).freeCount = s.freeCount := rfl
@[simp] theorem State.goto_cfg (s : State) (a : Word) : (s.goto a).cfg = s.cfg := rfl

/-! ### `delayTo` -/

@[simp] theorem State.delayTo_regs (s : State) (a : Word) : (s.delayTo a).regs = s.regs := rfl
@[simp] theorem State.delayTo_fregs (s : State) (a : Word) : (s.delayTo a).fregs = s.fregs := rfl
@[simp] theorem State.delayTo_pc (s : State) (a : Word) : (s.delayTo a).pc = s.pc + 2 := rfl
@[simp] theorem State.delayTo_sr (s : State) (a : Word) : (s.delayTo a).sr = s.sr := rfl
@[simp] theorem State.delayTo_gbr (s : State) (a : Word) : (s.delayTo a).gbr = s.gbr := rfl
@[simp] theorem State.delayTo_vbr (s : State) (a : Word) : (s.delayTo a).vbr = s.vbr := rfl
@[simp] theorem State.delayTo_tbr (s : State) (a : Word) : (s.delayTo a).tbr = s.tbr := rfl
@[simp] theorem State.delayTo_mach (s : State) (a : Word) : (s.delayTo a).mach = s.mach := rfl
@[simp] theorem State.delayTo_macl (s : State) (a : Word) : (s.delayTo a).macl = s.macl := rfl
@[simp] theorem State.delayTo_pr (s : State) (a : Word) : (s.delayTo a).pr = s.pr := rfl
@[simp] theorem State.delayTo_fpul (s : State) (a : Word) : (s.delayTo a).fpul = s.fpul := rfl
@[simp] theorem State.delayTo_fpscr (s : State) (a : Word) : (s.delayTo a).fpscr = s.fpscr := rfl
@[simp] theorem State.delayTo_slot (s : State) (a : Word) : (s.delayTo a).slot = .taken a := rfl
@[simp] theorem State.delayTo_held (s : State) (a : Word) : (s.delayTo a).held = s.held := rfl
@[simp] theorem State.delayTo_power (s : State) (a : Word) : (s.delayTo a).power = s.power := rfl
@[simp] theorem State.delayTo_banks (s : State) (a : Word) : (s.delayTo a).banks = s.banks := rfl
@[simp] theorem State.delayTo_bn (s : State) (a : Word) : (s.delayTo a).bn = s.bn := rfl
@[simp] theorem State.delayTo_ibcr (s : State) (a : Word) : (s.delayTo a).ibcr = s.ibcr := rfl
@[simp] theorem State.delayTo_ibnrBe (s : State) (a : Word) : (s.delayTo a).ibnrBe = s.ibnrBe := rfl
@[simp] theorem State.delayTo_ibnrBove (s : State) (a : Word) : (s.delayTo a).ibnrBove = s.ibnrBove := rfl
@[simp] theorem State.delayTo_fpuStopped (s : State) (a : Word) : (s.delayTo a).fpuStopped = s.fpuStopped := rfl
@[simp] theorem State.delayTo_mem (s : State) (a : Word) : (s.delayTo a).mem = s.mem := rfl
@[simp] theorem State.delayTo_inputs (s : State) (a : Word) : (s.delayTo a).inputs = s.inputs := rfl
@[simp] theorem State.delayTo_outside (s : State) (a : Word) : (s.delayTo a).outside = s.outside := rfl
@[simp] theorem State.delayTo_freeCount (s : State) (a : Word) : (s.delayTo a).freeCount = s.freeCount := rfl
@[simp] theorem State.delayTo_cfg (s : State) (a : Word) : (s.delayTo a).cfg = s.cfg := rfl

/-! ### `delayNone` -/

@[simp] theorem State.delayNone_regs (s : State) : (s.delayNone).regs = s.regs := rfl
@[simp] theorem State.delayNone_fregs (s : State) : (s.delayNone).fregs = s.fregs := rfl
@[simp] theorem State.delayNone_pc (s : State) : (s.delayNone).pc = s.pc + 2 := rfl
@[simp] theorem State.delayNone_sr (s : State) : (s.delayNone).sr = s.sr := rfl
@[simp] theorem State.delayNone_gbr (s : State) : (s.delayNone).gbr = s.gbr := rfl
@[simp] theorem State.delayNone_vbr (s : State) : (s.delayNone).vbr = s.vbr := rfl
@[simp] theorem State.delayNone_tbr (s : State) : (s.delayNone).tbr = s.tbr := rfl
@[simp] theorem State.delayNone_mach (s : State) : (s.delayNone).mach = s.mach := rfl
@[simp] theorem State.delayNone_macl (s : State) : (s.delayNone).macl = s.macl := rfl
@[simp] theorem State.delayNone_pr (s : State) : (s.delayNone).pr = s.pr := rfl
@[simp] theorem State.delayNone_fpul (s : State) : (s.delayNone).fpul = s.fpul := rfl
@[simp] theorem State.delayNone_fpscr (s : State) : (s.delayNone).fpscr = s.fpscr := rfl
@[simp] theorem State.delayNone_slot (s : State) : (s.delayNone).slot = .untaken := rfl
@[simp] theorem State.delayNone_held (s : State) : (s.delayNone).held = s.held := rfl
@[simp] theorem State.delayNone_power (s : State) : (s.delayNone).power = s.power := rfl
@[simp] theorem State.delayNone_banks (s : State) : (s.delayNone).banks = s.banks := rfl
@[simp] theorem State.delayNone_bn (s : State) : (s.delayNone).bn = s.bn := rfl
@[simp] theorem State.delayNone_ibcr (s : State) : (s.delayNone).ibcr = s.ibcr := rfl
@[simp] theorem State.delayNone_ibnrBe (s : State) : (s.delayNone).ibnrBe = s.ibnrBe := rfl
@[simp] theorem State.delayNone_ibnrBove (s : State) : (s.delayNone).ibnrBove = s.ibnrBove := rfl
@[simp] theorem State.delayNone_fpuStopped (s : State) : (s.delayNone).fpuStopped = s.fpuStopped := rfl
@[simp] theorem State.delayNone_mem (s : State) : (s.delayNone).mem = s.mem := rfl
@[simp] theorem State.delayNone_inputs (s : State) : (s.delayNone).inputs = s.inputs := rfl
@[simp] theorem State.delayNone_outside (s : State) : (s.delayNone).outside = s.outside := rfl
@[simp] theorem State.delayNone_freeCount (s : State) : (s.delayNone).freeCount = s.freeCount := rfl
@[simp] theorem State.delayNone_cfg (s : State) : (s.delayNone).cfg = s.cfg := rfl

end Sys2Proof.Machine
end

