-- ==== Sys2Proof/Laws/Ops.lean ====
section
/-!
SUPPORT. One lemma for each shared operation that says what it does: registers, the byte at an address, data accesses, the
end of an instruction and exception entry.
-/

namespace Sys2Proof.Machine

open Sys2Proof

/-! ### Registers -/

/-- A general register after a write. -/
theorem State.reg_setReg (s : State) (n k : GReg) (v : Word) :
    (s.setReg n v).reg k = if n = k then v else s.reg k := by
  simp only [State.reg, State.setReg_regs, Vector.getElem_set, BitVec.toNat_inj]

@[simp] theorem State.reg_setReg_same (s : State) (n : GReg) (v : Word) : (s.setReg n v).reg n = v := by
  simp [State.reg_setReg]

theorem State.reg_setReg_other (s : State) (n k : GReg) (v : Word) (h : k ≠ n) : (s.setReg n v).reg k = s.reg k := by
  simp [State.reg_setReg, Ne.symm h]

/-- A single-precision register after a write. -/
theorem State.freg_setFreg (s : State) (n k : FReg) (v : Word) :
    (s.setFreg n v).freg k = if n = k then v else s.freg k := by
  simp only [State.freg, State.setFreg_fregs, Vector.getElem_set, BitVec.toNat_inj]

@[simp] theorem State.freg_setFreg_same (s : State) (n : FReg) (v : Word) : (s.setFreg n v).freg n = v := by
  simp [State.freg_setFreg]

theorem State.freg_setFreg_other (s : State) (n k : FReg) (v : Word) (h : k ≠ n) :
    (s.setFreg n v).freg k = s.freg k := by
  simp [State.freg_setFreg, Ne.symm h]

theorem pairHigh_ne_pairLow (n m : DReg) : pairHigh n ≠ pairLow m := by
  revert n m; decide

theorem highWord_append_lowWord (v : Quad) : highWord v ++ lowWord v = v := by
  ext i hi
  simp only [highWord, lowWord, BitVec.getElem_append, BitVec.getElem_extractLsb', Nat.zero_add]
  by_cases h : i < 32
  · simp [h, BitVec.getLsbD_eq_getElem hi]
  · simp [h, Nat.add_sub_cancel' (Nat.le_of_not_lt h), BitVec.getLsbD_eq_getElem hi]

/-- A pair after a write. -/
@[simp] theorem State.dreg_setDreg_same (s : State) (n : DReg) (v : Quad) : (s.setDreg n v).dreg n = v := by
  simp only [State.dreg, State.setDreg, State.freg_setFreg_same,
    State.freg_setFreg_other _ _ _ _ (pairHigh_ne_pairLow n n), highWord_append_lowWord]

/-- A pair write leaves every register outside the pair alone. -/
theorem State.freg_setDreg_other (s : State) (n : DReg) (k : FReg) (v : Quad) (hh : k ≠ pairHigh n)
    (hl : k ≠ pairLow n) : (s.setDreg n v).freg k = s.freg k := by
  rw [State.setDreg, State.freg_setFreg_other _ _ _ _ hl, State.freg_setFreg_other _ _ _ _ hh]

/-! ### The byte at an address -/

/-- What a write of one byte leaves alone, whatever stands at the address. -/
theorem State.poke_frame (s : State) (a : Word) (v : Byte) :
    ∃ m c e o, s.poke a v = { s with mem := m, ibcr := c, ibnrBe := e, ibnrBove := o } := by
  unfold State.poke
  split <;> exact ⟨_, _, _, _, rfl⟩

@[simp] theorem State.poke_regs (s : State) (a : Word) (v : Byte) : (s.poke a v).regs = s.regs := by
  obtain ⟨m, c, e, o, h⟩ := s.poke_frame a v
  rw [h]

@[simp] theorem State.poke_fregs (s : State) (a : Word) (v : Byte) : (s.poke a v).fregs = s.fregs := by
  obtain ⟨m, c, e, o, h⟩ := s.poke_frame a v
  rw [h]

@[simp] theorem State.poke_pc (s : State) (a : Word) (v : Byte) : (s.poke a v).pc = s.pc := by
  obtain ⟨m, c, e, o, h⟩ := s.poke_frame a v
  rw [h]

@[simp] theorem State.poke_sr (s : State) (a : Word) (v : Byte) : (s.poke a v).sr = s.sr := by
  obtain ⟨m, c, e, o, h⟩ := s.poke_frame a v
  rw [h]

@[simp] theorem State.poke_gbr (s : State) (a : Word) (v : Byte) : (s.poke a v).gbr = s.gbr := by
  obtain ⟨m, c, e, o, h⟩ := s.poke_frame a v
  rw [h]

@[simp] theorem State.poke_vbr (s : State) (a : Word) (v : Byte) : (s.poke a v).vbr = s.vbr := by
  obtain ⟨m, c, e, o, h⟩ := s.poke_frame a v
  rw [h]

@[simp] theorem State.poke_tbr (s : State) (a : Word) (v : Byte) : (s.poke a v).tbr = s.tbr := by
  obtain ⟨m, c, e, o, h⟩ := s.poke_frame a v
  rw [h]

@[simp] theorem State.poke_mach (s : State) (a : Word) (v : Byte) : (s.poke a v).mach = s.mach := by
  obtain ⟨m, c, e, o, h⟩ := s.poke_frame a v
  rw [h]

@[simp] theorem State.poke_macl (s : State) (a : Word) (v : Byte) : (s.poke a v).macl = s.macl := by
  obtain ⟨m, c, e, o, h⟩ := s.poke_frame a v
  rw [h]

@[simp] theorem State.poke_pr (s : State) (a : Word) (v : Byte) : (s.poke a v).pr = s.pr := by
  obtain ⟨m, c, e, o, h⟩ := s.poke_frame a v
  rw [h]

@[simp] theorem State.poke_fpul (s : State) (a : Word) (v : Byte) : (s.poke a v).fpul = s.fpul := by
  obtain ⟨m, c, e, o, h⟩ := s.poke_frame a v
  rw [h]

@[simp] theorem State.poke_fpscr (s : State) (a : Word) (v : Byte) : (s.poke a v).fpscr = s.fpscr := by
  obtain ⟨m, c, e, o, h⟩ := s.poke_frame a v
  rw [h]

@[simp] theorem State.poke_slot (s : State) (a : Word) (v : Byte) : (s.poke a v).slot = s.slot := by
  obtain ⟨m, c, e, o, h⟩ := s.poke_frame a v
  rw [h]

@[simp] theorem State.poke_held (s : State) (a : Word) (v : Byte) : (s.poke a v).held = s.held := by
  obtain ⟨m, c, e, o, h⟩ := s.poke_frame a v
  rw [h]

@[simp] theorem State.poke_power (s : State) (a : Word) (v : Byte) : (s.poke a v).power = s.power := by
  obtain ⟨m, c, e, o, h⟩ := s.poke_frame a v
  rw [h]

@[simp] theorem State.poke_banks (s : State) (a : Word) (v : Byte) : (s.poke a v).banks = s.banks := by
  obtain ⟨m, c, e, o, h⟩ := s.poke_frame a v
  rw [h]

@[simp] theorem State.poke_bn (s : State) (a : Word) (v : Byte) : (s.poke a v).bn = s.bn := by
  obtain ⟨m, c, e, o, h⟩ := s.poke_frame a v
  rw [h]

@[simp] theorem State.poke_fpuStopped (s : State) (a : Word) (v : Byte) : (s.poke a v).fpuStopped = s.fpuStopped := by
  obtain ⟨m, c, e, o, h⟩ := s.poke_frame a v
  rw [h]

@[simp] theorem State.poke_inputs (s : State) (a : Word) (v : Byte) : (s.poke a v).inputs = s.inputs := by
  obtain ⟨m, c, e, o, h⟩ := s.poke_frame a v
  rw [h]

@[simp] theorem State.poke_outside (s : State) (a : Word) (v : Byte) : (s.poke a v).outside = s.outside := by
  obtain ⟨m, c, e, o, h⟩ := s.poke_frame a v
  rw [h]

@[simp] theorem State.poke_freeCount (s : State) (a : Word) (v : Byte) : (s.poke a v).freeCount = s.freeCount := by
  obtain ⟨m, c, e, o, h⟩ := s.poke_frame a v
  rw [h]

@[simp] theorem State.poke_cfg (s : State) (a : Word) (v : Byte) : (s.poke a v).cfg = s.cfg := by
  obtain ⟨m, c, e, o, h⟩ := s.poke_frame a v
  rw [h]

@[simp] theorem State.poke16_regs (s : State) (a : Word) (v : Half) : (s.poke16 a v).regs = s.regs := by simp [State.poke16]
@[simp] theorem State.poke16_fregs (s : State) (a : Word) (v : Half) : (s.poke16 a v).fregs = s.fregs := by simp [State.poke16]
@[simp] theorem State.poke16_pc (s : State) (a : Word) (v : Half) : (s.poke16 a v).pc = s.pc := by simp [State.poke16]
@[simp] theorem State.poke16_sr (s : State) (a : Word) (v : Half) : (s.poke16 a v).sr = s.sr := by simp [State.poke16]
@[simp] theorem State.poke16_gbr (s : State) (a : Word) (v : Half) : (s.poke16 a v).gbr = s.gbr := by simp [State.poke16]
@[simp] theorem State.poke16_vbr (s : State) (a : Word) (v : Half) : (s.poke16 a v).vbr = s.vbr := by simp [State.poke16]
@[simp] theorem State.poke16_tbr (s : State) (a : Word) (v : Half) : (s.poke16 a v).tbr = s.tbr := by simp [State.poke16]
@[simp] theorem State.poke16_mach (s : State) (a : Word) (v : Half) : (s.poke16 a v).mach = s.mach := by simp [State.poke16]
@[simp] theorem State.poke16_macl (s : State) (a : Word) (v : Half) : (s.poke16 a v).macl = s.macl := by simp [State.poke16]
@[simp] theorem State.poke16_pr (s : State) (a : Word) (v : Half) : (s.poke16 a v).pr = s.pr := by simp [State.poke16]
@[simp] theorem State.poke16_fpul (s : State) (a : Word) (v : Half) : (s.poke16 a v).fpul = s.fpul := by simp [State.poke16]
@[simp] theorem State.poke16_fpscr (s : State) (a : Word) (v : Half) : (s.poke16 a v).fpscr = s.fpscr := by simp [State.poke16]
@[simp] theorem State.poke16_slot (s : State) (a : Word) (v : Half) : (s.poke16 a v).slot = s.slot := by simp [State.poke16]
@[simp] theorem State.poke16_held (s : State) (a : Word) (v : Half) : (s.poke16 a v).held = s.held := by simp [State.poke16]
@[simp] theorem State.poke16_power (s : State) (a : Word) (v : Half) : (s.poke16 a v).power = s.power := by simp [State.poke16]
@[simp] theorem State.poke16_banks (s : State) (a : Word) (v : Half) : (s.poke16 a v).banks = s.banks := by simp [State.poke16]
@[simp] theorem State.poke16_bn (s : State) (a : Word) (v : Half) : (s.poke16 a v).bn = s.bn := by simp [State.poke16]
@[simp] theorem State.poke16_fpuStopped (s : State) (a : Word) (v : Half) : (s.poke16 a v).fpuStopped = s.fpuStopped := by simp [State.poke16]
@[simp] theorem State.poke16_inputs (s : State) (a : Word) (v : Half) : (s.poke16 a v).inputs = s.inputs := by simp [State.poke16]
@[simp] theorem State.poke16_outside (s : State) (a : Word) (v : Half) : (s.poke16 a v).outside = s.outside := by simp [State.poke16]
@[simp] theorem State.poke16_freeCount (s : State) (a : Word) (v : Half) : (s.poke16 a v).freeCount = s.freeCount := by simp [State.poke16]
@[simp] theorem State.poke16_cfg (s : State) (a : Word) (v : Half) : (s.poke16 a v).cfg = s.cfg := by simp [State.poke16]

@[simp] theorem State.poke32_regs (s : State) (a : Word) (v : Word) : (s.poke32 a v).regs = s.regs := by simp [State.poke32]
@[simp] theorem State.poke32_fregs (s : State) (a : Word) (v : Word) : (s.poke32 a v).fregs = s.fregs := by simp [State.poke32]
@[simp] theorem State.poke32_pc (s : State) (a : Word) (v : Word) : (s.poke32 a v).pc = s.pc := by simp [State.poke32]
@[simp] theorem State.poke32_sr (s : State) (a : Word) (v : Word) : (s.poke32 a v).sr = s.sr := by simp [State.poke32]
@[simp] theorem State.poke32_gbr (s : State) (a : Word) (v : Word) : (s.poke32 a v).gbr = s.gbr := by simp [State.poke32]
@[simp] theorem State.poke32_vbr (s : State) (a : Word) (v : Word) : (s.poke32 a v).vbr = s.vbr := by simp [State.poke32]
@[simp] theorem State.poke32_tbr (s : State) (a : Word) (v : Word) : (s.poke32 a v).tbr = s.tbr := by simp [State.poke32]
@[simp] theorem State.poke32_mach (s : State) (a : Word) (v : Word) : (s.poke32 a v).mach = s.mach := by simp [State.poke32]
@[simp] theorem State.poke32_macl (s : State) (a : Word) (v : Word) : (s.poke32 a v).macl = s.macl := by simp [State.poke32]
@[simp] theorem State.poke32_pr (s : State) (a : Word) (v : Word) : (s.poke32 a v).pr = s.pr := by simp [State.poke32]
@[simp] theorem State.poke32_fpul (s : State) (a : Word) (v : Word) : (s.poke32 a v).fpul = s.fpul := by simp [State.poke32]
@[simp] theorem State.poke32_fpscr (s : State) (a : Word) (v : Word) : (s.poke32 a v).fpscr = s.fpscr := by simp [State.poke32]
@[simp] theorem State.poke32_slot (s : State) (a : Word) (v : Word) : (s.poke32 a v).slot = s.slot := by simp [State.poke32]
@[simp] theorem State.poke32_held (s : State) (a : Word) (v : Word) : (s.poke32 a v).held = s.held := by simp [State.poke32]
@[simp] theorem State.poke32_power (s : State) (a : Word) (v : Word) : (s.poke32 a v).power = s.power := by simp [State.poke32]
@[simp] theorem State.poke32_banks (s : State) (a : Word) (v : Word) : (s.poke32 a v).banks = s.banks := by simp [State.poke32]
@[simp] theorem State.poke32_bn (s : State) (a : Word) (v : Word) : (s.poke32 a v).bn = s.bn := by simp [State.poke32]
@[simp] theorem State.poke32_fpuStopped (s : State) (a : Word) (v : Word) : (s.poke32 a v).fpuStopped = s.fpuStopped := by simp [State.poke32]
@[simp] theorem State.poke32_inputs (s : State) (a : Word) (v : Word) : (s.poke32 a v).inputs = s.inputs := by simp [State.poke32]
@[simp] theorem State.poke32_outside (s : State) (a : Word) (v : Word) : (s.poke32 a v).outside = s.outside := by simp [State.poke32]
@[simp] theorem State.poke32_freeCount (s : State) (a : Word) (v : Word) : (s.poke32 a v).freeCount = s.freeCount := by simp [State.poke32]
@[simp] theorem State.poke32_cfg (s : State) (a : Word) (v : Word) : (s.poke32 a v).cfg = s.cfg := by simp [State.poke32]

@[simp] theorem State.poke64_regs (s : State) (a : Word) (v : Quad) : (s.poke64 a v).regs = s.regs := by simp [State.poke64]
@[simp] theorem State.poke64_fregs (s : State) (a : Word) (v : Quad) : (s.poke64 a v).fregs = s.fregs := by simp [State.poke64]
@[simp] theorem State.poke64_pc (s : State) (a : Word) (v : Quad) : (s.poke64 a v).pc = s.pc := by simp [State.poke64]
@[simp] theorem State.poke64_sr (s : State) (a : Word) (v : Quad) : (s.poke64 a v).sr = s.sr := by simp [State.poke64]
@[simp] theorem State.poke64_gbr (s : State) (a : Word) (v : Quad) : (s.poke64 a v).gbr = s.gbr := by simp [State.poke64]
@[simp] theorem State.poke64_vbr (s : State) (a : Word) (v : Quad) : (s.poke64 a v).vbr = s.vbr := by simp [State.poke64]
@[simp] theorem State.poke64_tbr (s : State) (a : Word) (v : Quad) : (s.poke64 a v).tbr = s.tbr := by simp [State.poke64]
@[simp] theorem State.poke64_mach (s : State) (a : Word) (v : Quad) : (s.poke64 a v).mach = s.mach := by simp [State.poke64]
@[simp] theorem State.poke64_macl (s : State) (a : Word) (v : Quad) : (s.poke64 a v).macl = s.macl := by simp [State.poke64]
@[simp] theorem State.poke64_pr (s : State) (a : Word) (v : Quad) : (s.poke64 a v).pr = s.pr := by simp [State.poke64]
@[simp] theorem State.poke64_fpul (s : State) (a : Word) (v : Quad) : (s.poke64 a v).fpul = s.fpul := by simp [State.poke64]
@[simp] theorem State.poke64_fpscr (s : State) (a : Word) (v : Quad) : (s.poke64 a v).fpscr = s.fpscr := by simp [State.poke64]
@[simp] theorem State.poke64_slot (s : State) (a : Word) (v : Quad) : (s.poke64 a v).slot = s.slot := by simp [State.poke64]
@[simp] theorem State.poke64_held (s : State) (a : Word) (v : Quad) : (s.poke64 a v).held = s.held := by simp [State.poke64]
@[simp] theorem State.poke64_power (s : State) (a : Word) (v : Quad) : (s.poke64 a v).power = s.power := by simp [State.poke64]
@[simp] theorem State.poke64_banks (s : State) (a : Word) (v : Quad) : (s.poke64 a v).banks = s.banks := by simp [State.poke64]
@[simp] theorem State.poke64_bn (s : State) (a : Word) (v : Quad) : (s.poke64 a v).bn = s.bn := by simp [State.poke64]
@[simp] theorem State.poke64_fpuStopped (s : State) (a : Word) (v : Quad) : (s.poke64 a v).fpuStopped = s.fpuStopped := by simp [State.poke64]
@[simp] theorem State.poke64_inputs (s : State) (a : Word) (v : Quad) : (s.poke64 a v).inputs = s.inputs := by simp [State.poke64]
@[simp] theorem State.poke64_outside (s : State) (a : Word) (v : Quad) : (s.poke64 a v).outside = s.outside := by simp [State.poke64]
@[simp] theorem State.poke64_freeCount (s : State) (a : Word) (v : Quad) : (s.poke64 a v).freeCount = s.freeCount := by simp [State.poke64]
@[simp] theorem State.poke64_cfg (s : State) (a : Word) (v : Quad) : (s.poke64 a v).cfg = s.cfg := by simp [State.poke64]

@[simp] theorem State.store8_regs (s : State) (a : Word) (v : Byte) : (s.store8 a v).regs = s.regs := by
  unfold State.store8; split <;> simp
@[simp] theorem State.store8_fregs (s : State) (a : Word) (v : Byte) : (s.store8 a v).fregs = s.fregs := by
  unfold State.store8; split <;> simp
@[simp] theorem State.store8_pc (s : State) (a : Word) (v : Byte) : (s.store8 a v).pc = s.pc := by
  unfold State.store8; split <;> simp
@[simp] theorem State.store8_sr (s : State) (a : Word) (v : Byte) : (s.store8 a v).sr = s.sr := by
  unfold State.store8; split <;> simp
@[simp] theorem State.store8_gbr (s : State) (a : Word) (v : Byte) : (s.store8 a v).gbr = s.gbr := by
  unfold State.store8; split <;> simp
@[simp] theorem State.store8_vbr (s : State) (a : Word) (v : Byte) : (s.store8 a v).vbr = s.vbr := by
  unfold State.store8; split <;> simp
@[simp] theorem State.store8_tbr (s : State) (a : Word) (v : Byte) : (s.store8 a v).tbr = s.tbr := by
  unfold State.store8; split <;> simp
@[simp] theorem State.store8_mach (s : State) (a : Word) (v : Byte) : (s.store8 a v).mach = s.mach := by
  unfold State.store8; split <;> simp
@[simp] theorem State.store8_macl (s : State) (a : Word) (v : Byte) : (s.store8 a v).macl = s.macl := by
  unfold State.store8; split <;> simp
@[simp] theorem State.store8_pr (s : State) (a : Word) (v : Byte) : (s.store8 a v).pr = s.pr := by
  unfold State.store8; split <;> simp
@[simp] theorem State.store8_fpul (s : State) (a : Word) (v : Byte) : (s.store8 a v).fpul = s.fpul := by
  unfold State.store8; split <;> simp
@[simp] theorem State.store8_fpscr (s : State) (a : Word) (v : Byte) : (s.store8 a v).fpscr = s.fpscr := by
  unfold State.store8; split <;> simp
@[simp] theorem State.store8_slot (s : State) (a : Word) (v : Byte) : (s.store8 a v).slot = s.slot := by
  unfold State.store8; split <;> simp
@[simp] theorem State.store8_power (s : State) (a : Word) (v : Byte) : (s.store8 a v).power = s.power := by
  unfold State.store8; split <;> simp
@[simp] theorem State.store8_banks (s : State) (a : Word) (v : Byte) : (s.store8 a v).banks = s.banks := by
  unfold State.store8; split <;> simp
@[simp] theorem State.store8_bn (s : State) (a : Word) (v : Byte) : (s.store8 a v).bn = s.bn := by
  unfold State.store8; split <;> simp
@[simp] theorem State.store8_fpuStopped (s : State) (a : Word) (v : Byte) : (s.store8 a v).fpuStopped = s.fpuStopped := by
  unfold State.store8; split <;> simp
@[simp] theorem State.store8_inputs (s : State) (a : Word) (v : Byte) : (s.store8 a v).inputs = s.inputs := by
  unfold State.store8; split <;> simp
@[simp] theorem State.store8_outside (s : State) (a : Word) (v : Byte) : (s.store8 a v).outside = s.outside := by
  unfold State.store8; split <;> simp
@[simp] theorem State.store8_freeCount (s : State) (a : Word) (v : Byte) : (s.store8 a v).freeCount = s.freeCount := by
  unfold State.store8; split <;> simp
@[simp] theorem State.store8_cfg (s : State) (a : Word) (v : Byte) : (s.store8 a v).cfg = s.cfg := by
  unfold State.store8; split <;> simp

@[simp] theorem State.store16_regs (s : State) (a : Word) (v : Half) : (s.store16 a v).regs = s.regs := by
  unfold State.store16; split <;> simp
@[simp] theorem State.store16_fregs (s : State) (a : Word) (v : Half) : (s.store16 a v).fregs = s.fregs := by
  unfold State.store16; split <;> simp
@[simp] theorem State.store16_pc (s : State) (a : Word) (v : Half) : (s.store16 a v).pc = s.pc := by
  unfold State.store16; split <;> simp
@[simp] theorem State.store16_sr (s : State) (a : Word) (v : Half) : (s.store16 a v).sr = s.sr := by
  unfold State.store16; split <;> simp
@[simp] theorem State.store16_gbr (s : State) (a : Word) (v : Half) : (s.store16 a v).gbr = s.gbr := by
  unfold State.store16; split <;> simp
@[simp] theorem State.store16_vbr (s : State) (a : Word) (v : Half) : (s.store16 a v).vbr = s.vbr := by
  unfold State.store16; split <;> simp
@[simp] theorem State.store16_tbr (s : State) (a : Word) (v : Half) : (s.store16 a v).tbr = s.tbr := by
  unfold State.store16; split <;> simp
@[simp] theorem State.store16_mach (s : State) (a : Word) (v : Half) : (s.store16 a v).mach = s.mach := by
  unfold State.store16; split <;> simp
@[simp] theorem State.store16_macl (s : State) (a : Word) (v : Half) : (s.store16 a v).macl = s.macl := by
  unfold State.store16; split <;> simp
@[simp] theorem State.store16_pr (s : State) (a : Word) (v : Half) : (s.store16 a v).pr = s.pr := by
  unfold State.store16; split <;> simp
@[simp] theorem State.store16_fpul (s : State) (a : Word) (v : Half) : (s.store16 a v).fpul = s.fpul := by
  unfold State.store16; split <;> simp
@[simp] theorem State.store16_fpscr (s : State) (a : Word) (v : Half) : (s.store16 a v).fpscr = s.fpscr := by
  unfold State.store16; split <;> simp
@[simp] theorem State.store16_slot (s : State) (a : Word) (v : Half) : (s.store16 a v).slot = s.slot := by
  unfold State.store16; split <;> simp
@[simp] theorem State.store16_power (s : State) (a : Word) (v : Half) : (s.store16 a v).power = s.power := by
  unfold State.store16; split <;> simp
@[simp] theorem State.store16_banks (s : State) (a : Word) (v : Half) : (s.store16 a v).banks = s.banks := by
  unfold State.store16; split <;> simp
@[simp] theorem State.store16_bn (s : State) (a : Word) (v : Half) : (s.store16 a v).bn = s.bn := by
  unfold State.store16; split <;> simp
@[simp] theorem State.store16_fpuStopped (s : State) (a : Word) (v : Half) : (s.store16 a v).fpuStopped = s.fpuStopped := by
  unfold State.store16; split <;> simp
@[simp] theorem State.store16_inputs (s : State) (a : Word) (v : Half) : (s.store16 a v).inputs = s.inputs := by
  unfold State.store16; split <;> simp
@[simp] theorem State.store16_outside (s : State) (a : Word) (v : Half) : (s.store16 a v).outside = s.outside := by
  unfold State.store16; split <;> simp
@[simp] theorem State.store16_freeCount (s : State) (a : Word) (v : Half) : (s.store16 a v).freeCount = s.freeCount := by
  unfold State.store16; split <;> simp
@[simp] theorem State.store16_cfg (s : State) (a : Word) (v : Half) : (s.store16 a v).cfg = s.cfg := by
  unfold State.store16; split <;> simp

@[simp] theorem State.store32_regs (s : State) (a : Word) (v : Word) : (s.store32 a v).regs = s.regs := by
  unfold State.store32; split <;> simp
@[simp] theorem State.store32_fregs (s : State) (a : Word) (v : Word) : (s.store32 a v).fregs = s.fregs := by
  unfold State.store32; split <;> simp
@[simp] theorem State.store32_pc (s : State) (a : Word) (v : Word) : (s.store32 a v).pc = s.pc := by
  unfold State.store32; split <;> simp
@[simp] theorem State.store32_sr (s : State) (a : Word) (v : Word) : (s.store32 a v).sr = s.sr := by
  unfold State.store32; split <;> simp
@[simp] theorem State.store32_gbr (s : State) (a : Word) (v : Word) : (s.store32 a v).gbr = s.gbr := by
  unfold State.store32; split <;> simp
@[simp] theorem State.store32_vbr (s : State) (a : Word) (v : Word) : (s.store32 a v).vbr = s.vbr := by
  unfold State.store32; split <;> simp
@[simp] theorem State.store32_tbr (s : State) (a : Word) (v : Word) : (s.store32 a v).tbr = s.tbr := by
  unfold State.store32; split <;> simp
@[simp] theorem State.store32_mach (s : State) (a : Word) (v : Word) : (s.store32 a v).mach = s.mach := by
  unfold State.store32; split <;> simp
@[simp] theorem State.store32_macl (s : State) (a : Word) (v : Word) : (s.store32 a v).macl = s.macl := by
  unfold State.store32; split <;> simp
@[simp] theorem State.store32_pr (s : State) (a : Word) (v : Word) : (s.store32 a v).pr = s.pr := by
  unfold State.store32; split <;> simp
@[simp] theorem State.store32_fpul (s : State) (a : Word) (v : Word) : (s.store32 a v).fpul = s.fpul := by
  unfold State.store32; split <;> simp
@[simp] theorem State.store32_fpscr (s : State) (a : Word) (v : Word) : (s.store32 a v).fpscr = s.fpscr := by
  unfold State.store32; split <;> simp
@[simp] theorem State.store32_slot (s : State) (a : Word) (v : Word) : (s.store32 a v).slot = s.slot := by
  unfold State.store32; split <;> simp
@[simp] theorem State.store32_power (s : State) (a : Word) (v : Word) : (s.store32 a v).power = s.power := by
  unfold State.store32; split <;> simp
@[simp] theorem State.store32_banks (s : State) (a : Word) (v : Word) : (s.store32 a v).banks = s.banks := by
  unfold State.store32; split <;> simp
@[simp] theorem State.store32_bn (s : State) (a : Word) (v : Word) : (s.store32 a v).bn = s.bn := by
  unfold State.store32; split <;> simp
@[simp] theorem State.store32_fpuStopped (s : State) (a : Word) (v : Word) : (s.store32 a v).fpuStopped = s.fpuStopped := by
  unfold State.store32; split <;> simp
@[simp] theorem State.store32_inputs (s : State) (a : Word) (v : Word) : (s.store32 a v).inputs = s.inputs := by
  unfold State.store32; split <;> simp
@[simp] theorem State.store32_outside (s : State) (a : Word) (v : Word) : (s.store32 a v).outside = s.outside := by
  unfold State.store32; split <;> simp
@[simp] theorem State.store32_freeCount (s : State) (a : Word) (v : Word) : (s.store32 a v).freeCount = s.freeCount := by
  unfold State.store32; split <;> simp
@[simp] theorem State.store32_cfg (s : State) (a : Word) (v : Word) : (s.store32 a v).cfg = s.cfg := by
  unfold State.store32; split <;> simp

@[simp] theorem State.store64_regs (s : State) (a : Word) (v : Quad) : (s.store64 a v).regs = s.regs := by
  unfold State.store64; split <;> simp
@[simp] theorem State.store64_fregs (s : State) (a : Word) (v : Quad) : (s.store64 a v).fregs = s.fregs := by
  unfold State.store64; split <;> simp
@[simp] theorem State.store64_pc (s : State) (a : Word) (v : Quad) : (s.store64 a v).pc = s.pc := by
  unfold State.store64; split <;> simp
@[simp] theorem State.store64_sr (s : State) (a : Word) (v : Quad) : (s.store64 a v).sr = s.sr := by
  unfold State.store64; split <;> simp
@[simp] theorem State.store64_gbr (s : State) (a : Word) (v : Quad) : (s.store64 a v).gbr = s.gbr := by
  unfold State.store64; split <;> simp
@[simp] theorem State.store64_vbr (s : State) (a : Word) (v : Quad) : (s.store64 a v).vbr = s.vbr := by
  unfold State.store64; split <;> simp
@[simp] theorem State.store64_tbr (s : State) (a : Word) (v : Quad) : (s.store64 a v).tbr = s.tbr := by
  unfold State.store64; split <;> simp
@[simp] theorem State.store64_mach (s : State) (a : Word) (v : Quad) : (s.store64 a v).mach = s.mach := by
  unfold State.store64; split <;> simp
@[simp] theorem State.store64_macl (s : State) (a : Word) (v : Quad) : (s.store64 a v).macl = s.macl := by
  unfold State.store64; split <;> simp
@[simp] theorem State.store64_pr (s : State) (a : Word) (v : Quad) : (s.store64 a v).pr = s.pr := by
  unfold State.store64; split <;> simp
@[simp] theorem State.store64_fpul (s : State) (a : Word) (v : Quad) : (s.store64 a v).fpul = s.fpul := by
  unfold State.store64; split <;> simp
@[simp] theorem State.store64_fpscr (s : State) (a : Word) (v : Quad) : (s.store64 a v).fpscr = s.fpscr := by
  unfold State.store64; split <;> simp
@[simp] theorem State.store64_slot (s : State) (a : Word) (v : Quad) : (s.store64 a v).slot = s.slot := by
  unfold State.store64; split <;> simp
@[simp] theorem State.store64_power (s : State) (a : Word) (v : Quad) : (s.store64 a v).power = s.power := by
  unfold State.store64; split <;> simp
@[simp] theorem State.store64_banks (s : State) (a : Word) (v : Quad) : (s.store64 a v).banks = s.banks := by
  unfold State.store64; split <;> simp
@[simp] theorem State.store64_bn (s : State) (a : Word) (v : Quad) : (s.store64 a v).bn = s.bn := by
  unfold State.store64; split <;> simp
@[simp] theorem State.store64_fpuStopped (s : State) (a : Word) (v : Quad) : (s.store64 a v).fpuStopped = s.fpuStopped := by
  unfold State.store64; split <;> simp
@[simp] theorem State.store64_inputs (s : State) (a : Word) (v : Quad) : (s.store64 a v).inputs = s.inputs := by
  unfold State.store64; split <;> simp
@[simp] theorem State.store64_outside (s : State) (a : Word) (v : Quad) : (s.store64 a v).outside = s.outside := by
  unfold State.store64; split <;> simp
@[simp] theorem State.store64_freeCount (s : State) (a : Word) (v : Quad) : (s.store64 a v).freeCount = s.freeCount := by
  unfold State.store64; split <;> simp
@[simp] theorem State.store64_cfg (s : State) (a : Word) (v : Quad) : (s.store64 a v).cfg = s.cfg := by
  unfold State.store64; split <;> simp

/-- A byte write is seen at its own address only. -/
theorem State.peek_poke_other (s : State) (a b : Word) (v : Byte) (h : b ≠ a) (hm : Memory.wf s.mem) :
    (s.poke a v).peek b = s.peek b := by
  have hn : b.toNat ≠ a.toNat := fun e => h (BitVec.toNat_inj.mp e)
  have hb : (s.poke a v).cfg = s.cfg := State.poke_cfg s a v
  unfold State.peek
  rw [hb]
  cases hx : bankByteAt s.cfg b with
  | none =>
    simp only [State.poke]
    cases hy : bankByteAt s.cfg a with
    | none => simp only [Memory.read_write_other _ _ _ _ hn hm]
    | some y => cases y <;> rfl
  | some x =>
    simp only [State.poke]
    cases hy : bankByteAt s.cfg a with
    | none => cases x <;> rfl
    | some y =>
      have hxy : x ≠ y := by
        rintro rfl
        unfold bankByteAt at hx hy
        cases h1 : s.cfg.ibcrAddr <;> cases h2 : s.cfg.ibnrAddr <;> simp only [h1, h2, Option.map] at hx hy <;>
          cases x <;> grind
      cases x <;> cases y <;> first | exact absurd rfl hxy | (simp [highByte, lowByte]; try bv_omega)
      all_goals
        ext i hi
        simp [BitVec.getElem_extractLsb']
        try grind

/-- A byte write to memory is seen at its address. -/
theorem State.peek_poke_same (s : State) (a : Word) (v : Byte) (h : bankByteAt s.cfg a = none)
    (hm : Memory.wf s.mem) : (s.poke a v).peek a = v := by
  simp only [State.peek, h, State.poke, Memory.read_write_same _ _ _ hm]

/-- A byte write keeps the canonical form. -/
theorem State.poke_wf (s : State) (a : Word) (v : Byte) (hm : Memory.wf s.mem) : Memory.wf (s.poke a v).mem := by
  unfold State.poke
  split
  · exact Memory.write_wf_word _ _ _ hm
  all_goals exact hm

theorem State.poke16_wf (s : State) (a : Word) (v : Half) (hm : Memory.wf s.mem) : Memory.wf (s.poke16 a v).mem :=
  State.poke_wf _ _ _ (State.poke_wf _ _ _ hm)

theorem State.poke32_wf (s : State) (a : Word) (v : Word) (hm : Memory.wf s.mem) : Memory.wf (s.poke32 a v).mem :=
  State.poke_wf _ _ _ (State.poke_wf _ _ _ (State.poke_wf _ _ _ (State.poke_wf _ _ _ hm)))

theorem State.poke64_wf (s : State) (a : Word) (v : Quad) (hm : Memory.wf s.mem) : Memory.wf (s.poke64 a v).mem :=
  State.poke32_wf _ _ _ (State.poke32_wf _ _ _ hm)

/-- A word write is seen at its two bytes only. -/
theorem State.peek_poke16_other (s : State) (a b : Word) (v : Half) (h0 : b ≠ a) (h1 : b ≠ a + 1)
    (hm : Memory.wf s.mem) : (s.poke16 a v).peek b = s.peek b := by
  rw [State.poke16, State.peek_poke_other _ _ _ _ h1 (State.poke_wf _ _ _ hm), State.peek_poke_other _ _ _ _ h0 hm]

/-- A longword write is seen at its four bytes only. -/
theorem State.peek_poke32_other (s : State) (a b : Word) (v : Word) (h0 : b ≠ a) (h1 : b ≠ a + 1) (h2 : b ≠ a + 2)
    (h3 : b ≠ a + 3) (hm : Memory.wf s.mem) : (s.poke32 a v).peek b = s.peek b := by
  have w0 := State.poke_wf s a (byteOf v 0) hm
  have w1 := State.poke_wf _ (a + 1) (byteOf v 1) w0
  have w2 := State.poke_wf _ (a + 2) (byteOf v 2) w1
  rw [State.poke32, State.peek_poke_other _ _ _ _ h3 w2, State.peek_poke_other _ _ _ _ h2 w1,
    State.peek_poke_other _ _ _ _ h1 w0, State.peek_poke_other _ _ _ _ h0 hm]

/-- A quad write is seen at its eight bytes only. -/
theorem State.peek_poke64_other (s : State) (a b : Word) (v : Quad) (h : ∀ k : Nat, k < 8 → b ≠ a + BitVec.ofNat 32 k)
    (hm : Memory.wf s.mem) : (s.poke64 a v).peek b = s.peek b := by
  have w := State.poke32_wf s a (highWord v) hm
  have e (k : Nat) (hk : k < 8) := h k hk
  have e0 : b ≠ a := by simpa using e 0 (by omega)
  have e1 : b ≠ a + 1 := e 1 (by omega)
  have e2 : b ≠ a + 2 := e 2 (by omega)
  have e3 : b ≠ a + 3 := e 3 (by omega)
  have e4 : b ≠ a + 4 := e 4 (by omega)
  have e5 : b ≠ a + 4 + 1 := by have := e 5 (by omega); rw [BitVec.add_assoc]; exact this
  have e6 : b ≠ a + 4 + 2 := by have := e 6 (by omega); rw [BitVec.add_assoc]; exact this
  have e7 : b ≠ a + 4 + 3 := by have := e 7 (by omega); rw [BitVec.add_assoc]; exact this
  rw [State.poke64, State.peek_poke32_other _ _ _ _ e4 e5 e6 e7 w, State.peek_poke32_other _ _ _ _ e0 e1 e2 e3 hm]

/-- Reading back a longword written to memory. -/
theorem State.peek32_poke32_same (s : State) (a : Word) (v : Word) (h0 : bankByteAt s.cfg a = none)
    (h1 : bankByteAt s.cfg (a + 1) = none) (h2 : bankByteAt s.cfg (a + 2) = none)
    (h3 : bankByteAt s.cfg (a + 3) = none) (hm : Memory.wf s.mem) : (s.poke32 a v).peek32 a = v := by
  have w0 := State.poke_wf s a (byteOf v 0) hm
  have w1 := State.poke_wf _ (a + 1) (byteOf v 1) w0
  have w2 := State.poke_wf _ (a + 2) (byteOf v 2) w1
  have n (k : Word) (hk : k ≠ 0) : a ≠ a + k := fun e => hk (by
    have : a + k = a + 0 := by rw [← e]; exact (BitVec.add_zero a).symm
    exact (BitVec.add_right_inj a).mp this)
  have n2 (j k : Word) (hk : j ≠ k) : a + j ≠ a + k := fun e => hk ((BitVec.add_right_inj a).mp e)
  have r0 : (s.poke32 a v).peek a = byteOf v 0 := by
    rw [State.poke32, State.peek_poke_other _ _ _ _ (n 3 (by decide)) w2,
      State.peek_poke_other _ _ _ _ (n 2 (by decide)) w1, State.peek_poke_other _ _ _ _ (n 1 (by decide)) w0,
      State.peek_poke_same _ _ _ h0 hm]
  have r1 : (s.poke32 a v).peek (a + 1) = byteOf v 1 := by
    rw [State.poke32, State.peek_poke_other _ _ _ _ (n2 1 3 (by decide)) w2,
      State.peek_poke_other _ _ _ _ (n2 1 2 (by decide)) w1,
      State.peek_poke_same _ _ _ (by simpa using h1) w0]
  have r2 : (s.poke32 a v).peek (a + 2) = byteOf v 2 := by
    rw [State.poke32, State.peek_poke_other _ _ _ _ (n2 2 3 (by decide)) w2,
      State.peek_poke_same _ _ _ (by simpa using h2) w1]
  have r3 : (s.poke32 a v).peek (a + 3) = byteOf v 3 := by
    rw [State.poke32, State.peek_poke_same _ _ _ (by simpa using h3) w2]
  rw [State.peek32, r0, r1, r2, r3]
  ext i hi
  simp only [byteOf, BitVec.getElem_append, BitVec.getElem_extractLsb']
  by_cases a1 : i < 8
  · simp [a1, BitVec.getLsbD_eq_getElem hi]
  · by_cases a2 : i < 16
    · have : i - 8 < 8 := by omega
      simp [a1, this, Nat.add_sub_cancel' (Nat.le_of_not_lt a1), BitVec.getLsbD_eq_getElem hi]
    · by_cases a3 : i < 24
      · have b1 : ¬ i - 8 < 8 := by omega
        have b2 : i - 8 - 8 < 8 := by omega
        have b3 : 16 + (i - 8 - 8) = i := by omega
        simp [a1, b1, b2, b3, BitVec.getLsbD_eq_getElem hi]
      · have b1 : ¬ i - 8 < 8 := by omega
        have b2 : ¬ i - 8 - 8 < 8 := by omega
        have b3 : 24 + (i - 8 - 8 - 8) = i := by omega
        simp [a1, b1, b2, b3, BitVec.getLsbD_eq_getElem hi]

/-! ### Data accesses -/

section Access

variable {s : State} {a : Word}

theorem State.read8_ok (h : s.canAccess 1 a = true) : s.read8 a = some (s.peek a) := by simp [State.read8, h]
theorem State.read16_ok (h : s.canAccess 2 a = true) : s.read16 a = some (s.peek16 a) := by simp [State.read16, h]
theorem State.read32_ok (h : s.canAccess 4 a = true) : s.read32 a = some (s.peek32 a) := by simp [State.read32, h]
theorem State.read64_ok (h : s.canAccess 8 a = true) : s.read64 a = some (s.peek64 a) := by simp [State.read64, h]
theorem State.read8_bad (h : s.canAccess 1 a = false) : s.read8 a = none := by simp [State.read8, h]
theorem State.read16_bad (h : s.canAccess 2 a = false) : s.read16 a = none := by simp [State.read16, h]
theorem State.read32_bad (h : s.canAccess 4 a = false) : s.read32 a = none := by simp [State.read32, h]
theorem State.read64_bad (h : s.canAccess 8 a = false) : s.read64 a = none := by simp [State.read64, h]

theorem State.load32_ok (h : s.canAccess 4 a = true) : s.load32 a = (s.peek32 a, s) := by
  simp [State.load32, State.read32_ok h, State.deliver]
theorem State.load64_ok (h : s.canAccess 8 a = true) : s.load64 a = (s.peek64 a, s) := by
  simp [State.load64, State.read64_ok h, State.deliver64]
theorem State.load8s_ok (h : s.canAccess 1 a = true) : s.load8s a = ((s.peek a).signExtend 32, s) := by
  simp [State.load8s, State.read8_ok h, State.deliver]
theorem State.load16s_ok (h : s.canAccess 2 a = true) : s.load16s a = ((s.peek16 a).signExtend 32, s) := by
  simp [State.load16s, State.read16_ok h, State.deliver]
theorem State.load8u_ok (h : s.canAccess 1 a = true) : s.load8u a = ((s.peek a).setWidth 32, s) := by
  simp [State.load8u, State.read8_ok h, State.deliver]
theorem State.load16u_ok (h : s.canAccess 2 a = true) : s.load16u a = ((s.peek16 a).setWidth 32, s) := by
  simp [State.load16u, State.read16_ok h, State.deliver]

theorem State.load32_bad (h : s.canAccess 4 a = false) : s.load32 a = (s.open32, (s.drawn 1).addressError) := by
  simp [State.load32, State.read32_bad h, State.deliver]
theorem State.load64_bad (h : s.canAccess 8 a = false) : s.load64 a = (s.open64, (s.drawn 2).addressError) := by
  simp [State.load64, State.read64_bad h, State.deliver64]
theorem State.load16s_bad (h : s.canAccess 2 a = false) : s.load16s a = (s.open32, (s.drawn 1).addressError) := by
  simp [State.load16s, State.read16_bad h, State.deliver]
theorem State.load16u_bad (h : s.canAccess 2 a = false) : s.load16u a = (s.open32, (s.drawn 1).addressError) := by
  simp [State.load16u, State.read16_bad h, State.deliver]

theorem State.store8_ok (h : s.canAccess 1 a = true) (v : Byte) : s.store8 a v = s.poke a v := by
  simp [State.store8, h]
theorem State.store16_ok (h : s.canAccess 2 a = true) (v : Half) : s.store16 a v = s.poke16 a v := by
  simp [State.store16, h]
theorem State.store32_ok (h : s.canAccess 4 a = true) (v : Word) : s.store32 a v = s.poke32 a v := by
  simp [State.store32, h]
theorem State.store64_ok (h : s.canAccess 8 a = true) (v : Quad) : s.store64 a v = s.poke64 a v := by
  simp [State.store64, h]
theorem State.store16_bad (h : s.canAccess 2 a = false) (v : Half) : s.store16 a v = s.addressError := by
  simp [State.store16, h]
theorem State.store32_bad (h : s.canAccess 4 a = false) (v : Word) : s.store32 a v = s.addressError := by
  simp [State.store32, h]
theorem State.store64_bad (h : s.canAccess 8 a = false) (v : Quad) : s.store64 a v = s.addressError := by
  simp [State.store64, h]

end Access

/-! ### The end of an instruction -/

/-- An instruction that ends with nothing held goes on at its next pc. -/
theorem State.complete_quiet {s : State} (h : s.held = false) (len : Word) :
    s.complete len = s.goto (s.nextPc len) := by
  simp [State.complete, State.acceptHeld, h]

/-- An instruction that ends with an address error held enters its handler, with the saved pc where control stands. -/
theorem State.complete_held {s : State} (h : s.held = true) (len : Word) :
    s.complete len = (s.goto (s.nextPc len)).raise .cpuAddressError (s.nextPc len) := by
  simp [State.complete, State.acceptHeld, h]

theorem State.jump_quiet {s : State} (h : s.held = false) (a : Word) : s.jump a = s.goto a := by
  simp [State.jump, State.acceptHeld, h]

theorem State.done_eq (s : State) (len : Word) : s.done len = .next (s.complete len) := rfl

theorem State.outsideSlot_none {s : State} (h : s.slot = .none) (len : Word) (r : Res) : s.outsideSlot len r = r := by
  simp [State.outsideSlot, h]

theorem State.outsideSlot_slot {s : State} (h : s.slot ≠ .none) (len : Word) (r : Res) :
    s.outsideSlot len r = .next (s.illegal len) := by
  simp [State.outsideSlot, h]

theorem State.withFpu_ready {s : State} (h : s.fpuReady = true) (len : Word) (r : Res) : s.withFpu len r = r := by
  simp [State.withFpu, h]

theorem State.withFpu_absent {s : State} (h : s.fpuReady = false) (len : Word) (r : Res) :
    s.withFpu len r = .next (s.illegal len) := by
  simp [State.withFpu, h]

/-! ### Exception entry -/

/-- The state after SR and a saved pc have been pushed (R716). -/
theorem State.entryPush_ok {s : State} (v : Word) (h : s.canAccess 4 (s.sp - 4) = true) :
    s.entryPush v = (s.setReg 15 (s.sp - 4)).poke32 (s.sp - 4) v := by
  have c : (s.setReg 15 (s.sp - 4)).canAccess 4 (s.sp - 4) = true := h
  simp only [State.entryPush, c, if_true]

theorem State.sp_entryPush_ok {s : State} (v : Word) (h : s.canAccess 4 (s.sp - 4) = true) :
    (s.entryPush v).sp = s.sp - 4 := by
  rw [State.entryPush_ok v h]
  simp only [State.sp, State.reg, State.poke32_regs]
  exact State.reg_setReg_same s 15 _

theorem State.canAccess_entryPush_ok {s : State} (v : Word) (h : s.canAccess 4 (s.sp - 4) = true) (n : Nat) (a : Word) :
    (s.entryPush v).canAccess n a = s.canAccess n a := by
  rw [State.entryPush_ok v h]
  simp only [State.canAccess, State.poke32_cfg, State.setReg_cfg]

/-- What one exception entry is when its three accesses are allowed and it saves no bank: the vector read, SR and the saved
pc pushed, IMASK if the entry sets it, and control at the handler (R716). -/
theorem State.enterOnce_ok {s : State} {e : Exc} (saved : Word) (mask : Option (BitVec 4))
    (hv : s.canAccess 4 (s.vbr + e.vector <<< 2) = true) (h1 : s.canAccess 4 (s.sp - 4) = true)
    (h2 : s.canAccess 4 (s.sp - 4 - 4) = true) :
    s.enterOnce e saved mask .nowhere =
      let t := (((s.setReg 15 (s.sp - 4)).poke32 (s.sp - 4) s.sr).setReg 15 (s.sp - 4 - 4)).poke32 (s.sp - 4 - 4) saved
      let t := match mask with
        | some l => t.setImask l
        | none => t
      { t with pc := s.peek32 (s.vbr + e.vector <<< 2), slot := .none, power := .run } := by
  have hsp := State.sp_entryPush_ok s.sr h1
  have c2 : (s.entryPush s.sr).canAccess 4 ((s.entryPush s.sr).sp - 4) = true := by
    rw [State.canAccess_entryPush_ok s.sr h1, hsp]; exact h2
  have e2 : (s.entryPush s.sr).entryPush saved =
      (((s.setReg 15 (s.sp - 4)).poke32 (s.sp - 4) s.sr).setReg 15 (s.sp - 4 - 4)).poke32 (s.sp - 4 - 4) saved := by
    rw [State.entryPush_ok saved c2, hsp, State.entryPush_ok s.sr h1]
  cases mask <;> simp only [State.enterOnce, State.load32_ok hv, e2, State.saveBank]

/-- Exception entry when nothing was held and its accesses are allowed is the sequence of R716, once. -/
theorem State.enter_ok {s : State} {e : Exc} (saved : Word) (mask : Option (BitVec 4)) (hh : s.held = false)
    (hv : s.canAccess 4 (s.vbr + e.vector <<< 2) = true) (h1 : s.canAccess 4 (s.sp - 4) = true)
    (h2 : s.canAccess 4 (s.sp - 4 - 4) = true) :
    s.enter e saved mask .nowhere = s.enterOnce e saved mask .nowhere := by
  have hs : { s with held := false } = s := by rw [← hh]
  have ht : (s.enterOnce e saved mask .nowhere).held = false := by
    rw [State.enterOnce_ok saved mask hv h1 h2]
    cases mask <;> simp [hh]
  have hu : ({ s.enterOnce e saved mask .nowhere with held := false } : State) = s.enterOnce e saved mask .nowhere := by
    generalize s.enterOnce e saved mask .nowhere = u at ht
    rw [← ht]
  unfold State.enter
  simp only [hs, hh, hu, ht]
  split <;> simp

end Sys2Proof.Machine
end

