-- ==== Sys2Proof/Laws/Banks.lean ====
section
/-!
SUPPORT. What the operations under the register bank instructions do: pops from a stack whose longwords are readable, the
entry that a bank address names, and the byte of IBNR that shows BN.
-/

namespace Sys2Proof.Machine

open Sys2Proof

/-- A pop from a readable longword: the datum delivered, R15 four higher. -/
theorem State.popInto_ok {s : State} {a : Word} (put : State → Word → State) (h : s.sp = a)
    (hc : s.canAccess 4 a = true) : s.popInto put = (put s (s.peek32 a)).setReg 15 (a + 4) := by
  simp only [State.popInto, h, State.load32_ok hc]

/-- Popping R0 up to R[k - 1] from readable longwords changes those registers and R15, nothing else. -/
theorem State.popList_range (s : State) : ∀ k : Nat, k ≤ 15 →
    (∀ j : Nat, j < k → s.canAccess 4 (s.reg 15 + BitVec.ofNat 32 (4 * j)) = true) →
    ∃ r : Vector Word 16, s.popList (List.range k) = { s with regs := r } ∧
      r[15] = s.reg 15 + BitVec.ofNat 32 (4 * k) ∧
      (∀ (j : Nat) (_ : j < 15), r[j] = if j < k then s.peek32 (s.reg 15 + BitVec.ofNat 32 (4 * j)) else s.regs[j]) := by
  intro k
  induction k with
  | zero => exact fun _ _ => ⟨s.regs, rfl, by simp [State.reg], fun j _ => by simp⟩
  | succ k ih =>
    intro hk hc
    obtain ⟨r, h1, h2, h3⟩ := ih (by omega) (fun j hj => hc j (by omega))
    have top : ({ s with regs := r } : State).sp = s.reg 15 + BitVec.ofNat 32 (4 * k) := h2
    have datum := State.load32_ok (s := { s with regs := r }) (hc k (by omega))
    have up : s.reg 15 + BitVec.ofNat 32 (4 * k) + 4 = s.reg 15 + BitVec.ofNat 32 (4 * (k + 1)) := by
      apply BitVec.eq_of_toNat_eq
      simp
      omega
    refine ⟨(r.set k (s.peek32 (s.reg 15 + BitVec.ofNat 32 (4 * k)))).set 15 (s.reg 15 + BitVec.ofNat 32 (4 * (k + 1))),
      ?_, by simp, ?_⟩
    · rw [List.range_succ, State.popList, List.foldl_append]
      show List.foldl _ (s.popList (List.range k)) [k] = _
      simp only [h1, List.foldl_cons, List.foldl_nil, top, datum, up]
      simp [State.setListReg, State.setReg, show k ≠ 15 by omega, show k % 16 = k by omega]
      rfl
    · intro j hj
      rw [Vector.getElem_set_ne (h := by omega)]
      by_cases h : j = k
      · subst h; simp
      · rw [Vector.getElem_set_ne (h := by omega), h3 j hj]
        simp [show (j < k + 1) = (j < k) from propext (by omega)]

/-- The bank and entry of a bank address that names them (R55). -/
theorem State.bankEntry?_some (s : State) (k e : Nat) (he : e < 20) (h : k < s.banks.length) (hk : k < 512) :
    s.bankEntry? (BitVec.ofNat 32 (128 * k + 4 * e)) = some (k, ⟨e, he⟩) := by
  have value : (BitVec.ofNat 32 (128 * k + 4 * e)).toNat = 128 * k + 4 * e := by simp; omega
  have field : ∀ i w : Nat, ((BitVec.ofNat 32 (128 * k + 4 * e)).extractLsb' i w).toNat =
      (128 * k + 4 * e) / 2 ^ i % 2 ^ w := by
    intro i w
    rw [BitVec.extractLsb'_toNat, value, Nat.shiftRight_eq_div_pow]
  have bank : ((BitVec.ofNat 32 (128 * k + 4 * e)).extractLsb' 7 9).toNat = k := by rw [field]; omega
  have entry : ((BitVec.ofNat 32 (128 * k + 4 * e)).extractLsb' 2 5).toNat = e := by rw [field]; omega
  have high : (BitVec.ofNat 32 (128 * k + 4 * e)).extractLsb' 16 16 = 0 := by
    apply BitVec.eq_of_toNat_eq; rw [field]; simp; omega
  have low : (BitVec.ofNat 32 (128 * k + 4 * e)).extractLsb' 0 2 = 0 := by
    apply BitVec.eq_of_toNat_eq; rw [field]; simp; omega
  unfold State.bankEntry?
  simp only [bank, entry, high, low, h, he, true_and, if_true, dif_pos]

/-- A bank that exists is the one BN or an address names. -/
theorem State.bankAt_some {s : State} {k : Nat} {b : Bank} (h : s.banks[k]? = some b) : s.bankAt k = b := by
  simp [State.bankAt, List.getD, h]

/-- The low byte of IBNR is BN modulo 16 (R49). -/
theorem State.peek_ibnrLow {s : State} {a : Word} (h : bankByteAt s.cfg a = some .ibnrLow) :
    s.peek a = BitVec.ofNat 8 (s.bn % 16) := by
  simp only [State.peek, h]
  apply BitVec.eq_of_toNat_eq
  rw [BitVec.toNat_append]
  simp
  omega

end Sys2Proof.Machine
end

