-- ==== Sys2Proof/WellFormed.lean ====
section
/-!
DEFINITION. Which abstract instructions an assembler may emit. Every operand type of `Instr` already has the width of its
field; the one further rule of the encoding is that the field of a double-precision operand is printed `nnn0`, so its
register number is even (R41, R122, R146).
-/

namespace Sys2Proof

/-- A pair operand names an even register (R41). -/
def DReg.even (r : DReg) : Bool := !(r.getLsbD 0)

/-- The encoding rules of spec/30_encoding.md that the operand types do not already say. -/
def Instr.wellFormed : Instr → Bool
  | .movImm _ _ => true
  | .movWPcRel _ _ => true
  | .movLPcRel _ _ => true
  | .movReg _ _ => true
  | .movBStore _ _ => true
  | .movWStore _ _ => true
  | .movLStore _ _ => true
  | .movBLoad _ _ => true
  | .movWLoad _ _ => true
  | .movLLoad _ _ => true
  | .movBStorePreDec _ _ => true
  | .movWStorePreDec _ _ => true
  | .movLStorePreDec _ _ => true
  | .movBLoadPostInc _ _ => true
  | .movWLoadPostInc _ _ => true
  | .movLLoadPostInc _ _ => true
  | .movBStoreDisp4 _ _ => true
  | .movWStoreDisp4 _ _ => true
  | .movLStoreDisp4 _ _ _ => true
  | .movBLoadDisp4 _ _ => true
  | .movWLoadDisp4 _ _ => true
  | .movLLoadDisp4 _ _ _ => true
  | .movBStoreIdx _ _ => true
  | .movWStoreIdx _ _ => true
  | .movLStoreIdx _ _ => true
  | .movBLoadIdx _ _ => true
  | .movWLoadIdx _ _ => true
  | .movLLoadIdx _ _ => true
  | .movBStoreGbr _ => true
  | .movWStoreGbr _ => true
  | .movLStoreGbr _ => true
  | .movBLoadGbr _ => true
  | .movWLoadGbr _ => true
  | .movLLoadGbr _ => true
  | .movBStorePostInc _ => true
  | .movWStorePostInc _ => true
  | .movLStorePostInc _ => true
  | .movBLoadPreDec _ => true
  | .movWLoadPreDec _ => true
  | .movLLoadPreDec _ => true
  | .movBStoreDisp12 _ _ _ => true
  | .movWStoreDisp12 _ _ _ => true
  | .movLStoreDisp12 _ _ _ => true
  | .movBLoadDisp12 _ _ _ => true
  | .movWLoadDisp12 _ _ _ => true
  | .movLLoadDisp12 _ _ _ => true
  | .movuBLoadDisp12 _ _ _ => true
  | .movuWLoadDisp12 _ _ _ => true
  | .mova _ => true
  | .movi20 _ _ => true
  | .movi20s _ _ => true
  | .movmlPush _ => true
  | .movmlPop _ => true
  | .movmuPush _ => true
  | .movmuPop _ => true
  | .movrt _ => true
  | .movt _ => true
  | .nott => true
  | .pref _ => true
  | .swapB _ _ => true
  | .swapW _ _ => true
  | .xtrct _ _ => true
  | .add _ _ => true
  | .addImm _ _ => true
  | .addc _ _ => true
  | .addv _ _ => true
  | .neg _ _ => true
  | .negc _ _ => true
  | .sub _ _ => true
  | .subc _ _ => true
  | .subv _ _ => true
  | .cmpEqImm _ => true
  | .cmpEq _ _ => true
  | .cmpHs _ _ => true
  | .cmpGe _ _ => true
  | .cmpHi _ _ => true
  | .cmpGt _ _ => true
  | .cmpPl _ => true
  | .cmpPz _ => true
  | .cmpStr _ _ => true
  | .dt _ => true
  | .clipsB _ => true
  | .clipsW _ => true
  | .clipuB _ => true
  | .clipuW _ => true
  | .extsB _ _ => true
  | .extsW _ _ => true
  | .extuB _ _ => true
  | .extuW _ _ => true
  | .div0s _ _ => true
  | .div0u => true
  | .div1 _ _ => true
  | .divs _ => true
  | .divu _ => true
  | .dmulsL _ _ => true
  | .dmuluL _ _ => true
  | .mulL _ _ => true
  | .mulr _ => true
  | .macL _ _ => true
  | .andReg _ _ => true
  | .andImm _ => true
  | .andBGbr _ => true
  | .notReg _ _ => true
  | .orReg _ _ => true
  | .orImm _ => true
  | .orBGbr _ => true
  | .tasB _ => true
  | .tstReg _ _ => true
  | .tstImm _ => true
  | .tstBGbr _ => true
  | .xorReg _ _ => true
  | .xorImm _ => true
  | .xorBGbr _ => true
  | .rotl _ => true
  | .rotr _ => true
  | .rotcl _ => true
  | .rotcr _ => true
  | .shal _ => true
  | .shar _ => true
  | .shll _ => true
  | .shlr _ => true
  | .shll2 _ => true
  | .shll8 _ => true
  | .shll16 _ => true
  | .shlr2 _ => true
  | .shlr8 _ => true
  | .shlr16 _ => true
  | .shad _ _ => true
  | .shld _ _ => true
  | .bf _ => true
  | .bfS _ => true
  | .bt _ => true
  | .btS _ => true
  | .bra _ => true
  | .braf _ => true
  | .jmp _ => true
  | .bsr _ => true
  | .bsrf _ => true
  | .jsr _ => true
  | .rts => true
  | .jsrNTbr _ => true
  | .jsrN _ => true
  | .rtsN => true
  | .rtvN _ => true
  | .clrt => true
  | .sett => true
  | .clrmac => true
  | .nop => true
  | .ldcSr _ => true
  | .ldcGbr _ => true
  | .ldcVbr _ => true
  | .ldcTbr _ => true
  | .ldcLSr _ => true
  | .ldcLGbr _ => true
  | .ldcLVbr _ => true
  | .ldsMach _ => true
  | .ldsMacl _ => true
  | .ldsPr _ => true
  | .ldsLMach _ => true
  | .ldsLMacl _ => true
  | .ldsLPr _ => true
  | .rte => true
  | .sleep => true
  | .trapa _ => true
  | .stcSr _ => true
  | .stcGbr _ => true
  | .stcVbr _ => true
  | .stcTbr _ => true
  | .stcLSr _ => true
  | .stcLGbr _ => true
  | .stcLVbr _ => true
  | .stsMach _ => true
  | .stsMacl _ => true
  | .stsPr _ => true
  | .stsLMach _ => true
  | .stsLMacl _ => true
  | .stsLPr _ => true
  | .resbank => true
  | .ldbank _ => true
  | .stbank _ => true
  | .bandB _ _ _ => true
  | .bandnotB _ _ _ => true
  | .borB _ _ _ => true
  | .bornotB _ _ _ => true
  | .bxorB _ _ _ => true
  | .bldB _ _ _ => true
  | .bldReg _ _ => true
  | .bldnotB _ _ _ => true
  | .bclrB _ _ _ => true
  | .bclrReg _ _ => true
  | .bsetB _ _ _ => true
  | .bsetReg _ _ => true
  | .bstB _ _ _ => true
  | .bstReg _ _ => true
  | .mulsW _ _ => true
  | .muluW _ _ => true
  | .macW _ _ => true
  | .fabsFR _ => true
  | .fabsDR n => DReg.even n
  | .faddFR _ _ => true
  | .faddDR m n => DReg.even m && DReg.even n
  | .fcmpEqFR _ _ => true
  | .fcmpEqDR m n => DReg.even m && DReg.even n
  | .fcmpGtFR _ _ => true
  | .fcmpGtDR m n => DReg.even m && DReg.even n
  | .fcnvds m => DReg.even m
  | .fcnvsd n => DReg.even n
  | .fdivFR _ _ => true
  | .fdivDR m n => DReg.even m && DReg.even n
  | .floatFR _ => true
  | .floatDR n => DReg.even n
  | .fmac _ _ => true
  | .fmulFR _ _ => true
  | .fmulDR m n => DReg.even m && DReg.even n
  | .fnegFR _ => true
  | .fnegDR n => DReg.even n
  | .fsqrtFR _ => true
  | .fsqrtDR n => DReg.even n
  | .fsubFR _ _ => true
  | .fsubDR m n => DReg.even m && DReg.even n
  | .ftrcFR _ => true
  | .ftrcDR m => DReg.even m
  | .fmovFR _ _ => true
  | .fmovDR m n => DReg.even m && DReg.even n
  | .fmovSStore _ _ => true
  | .fmovDStore m _ => DReg.even m
  | .fmovSLoad _ _ => true
  | .fmovDLoad _ n => DReg.even n
  | .fmovSLoadPostInc _ _ => true
  | .fmovDLoadPostInc _ n => DReg.even n
  | .fmovSStorePreDec _ _ => true
  | .fmovDStorePreDec m _ => DReg.even m
  | .fmovSLoadIdx _ _ => true
  | .fmovDLoadIdx _ n => DReg.even n
  | .fmovSStoreIdx _ _ => true
  | .fmovDStoreIdx m _ => DReg.even m
  | .fmovSStoreDisp12 _ _ _ => true
  | .fmovDStoreDisp12 m _ _ => DReg.even m
  | .fmovSLoadDisp12 _ _ _ => true
  | .fmovDLoadDisp12 _ n _ => DReg.even n
  | .flds _ => true
  | .fsts _ => true
  | .fldi0 _ => true
  | .fldi1 _ => true
  | .fschg => true
  | .ldsFpul _ => true
  | .ldsLFpul _ => true
  | .ldsFpscr _ => true
  | .ldsLFpscr _ => true
  | .stsFpul _ => true
  | .stsFpscr _ => true
  | .stsLFpul _ => true
  | .stsLFpscr _ => true

end Sys2Proof
end

