-- ==== Sys2Proof/Laws/Decode.lean ====
section
/-!
SUPPORT. The fields of a code unit that was put together from nibbles: what the decoder reads is what the encoder wrote.
-/

namespace Sys2Proof

section Append

variable {n m : Nat}

/-- The upper part of two appended fields. -/
theorem extract_append_high (x : BitVec n) (y : BitVec m) (i w : Nat) (h : m ≤ i) :
    (x ++ y).extractLsb' i w = x.extractLsb' (i - m) w := by
  ext k hk
  have h1 : ¬ i + k < m := by omega
  simp only [BitVec.getElem_extractLsb', BitVec.getLsbD_append, h1, if_false]
  congr 1; omega

/-- The lower part of two appended fields. -/
theorem extract_append_low (x : BitVec n) (y : BitVec m) (i w : Nat) (h : i + w ≤ m) :
    (x ++ y).extractLsb' i w = y.extractLsb' i w := by
  ext k hk
  have h1 : i + k < m := by omega
  simp only [BitVec.getElem_extractLsb', BitVec.getLsbD_append, h1, if_true]

/-- Two adjacent fields of a word, put together again. -/
theorem extract_append_extract (x : BitVec n) (i w v : Nat) :
    x.extractLsb' (i + v) w ++ x.extractLsb' i v = x.extractLsb' i (w + v) := by
  ext k hk
  simp only [BitVec.getElem_append, BitVec.getElem_extractLsb']
  by_cases h : k < v
  · simp [h]
  · simp only [h, dite_false]
    congr 1; omega

/-- A whole word as its own field. -/
theorem extract_whole (x : BitVec n) : x.extractLsb' 0 n = x := by
  ext k hk
  simp

end Append

/-! ### Nibbles -/

@[simp] theorem nibble_nibbles_3 (a b c d : BitVec 4) : nibble (nibbles a b c d) 3 = a := by
  show (a ++ b ++ c ++ d).extractLsb' 12 4 = a
  rw [extract_append_high _ _ _ _ (by omega), extract_append_high _ _ _ _ (by omega),
    extract_append_high _ _ _ _ (by omega)]
  exact extract_whole a
@[simp] theorem nibble_nibbles_2 (a b c d : BitVec 4) : nibble (nibbles a b c d) 2 = b := by
  show (a ++ b ++ c ++ d).extractLsb' 8 4 = b
  rw [extract_append_high _ _ _ _ (by omega), extract_append_high _ _ _ _ (by omega),
    extract_append_low _ _ _ _ (by omega)]
  exact extract_whole b
@[simp] theorem nibble_nibbles_1 (a b c d : BitVec 4) : nibble (nibbles a b c d) 1 = c := by
  show (a ++ b ++ c ++ d).extractLsb' 4 4 = c
  rw [extract_append_high _ _ _ _ (by omega), extract_append_low _ _ _ _ (by omega)]
  exact extract_whole c
@[simp] theorem nibble_nibbles_0 (a b c d : BitVec 4) : nibble (nibbles a b c d) 0 = d := by
  show (a ++ b ++ c ++ d).extractLsb' 0 4 = d
  rw [extract_append_low _ _ _ _ (by omega)]
  exact extract_whole d

@[simp] theorem nibble_nibbles8_3 (a b : BitVec 4) (x : BitVec 8) : nibble (nibbles8 a b x) 3 = a := by
  show (a ++ b ++ x).extractLsb' 12 4 = a
  rw [extract_append_high _ _ _ _ (by omega), extract_append_high _ _ _ _ (by omega)]
  exact extract_whole a
@[simp] theorem nibble_nibbles8_2 (a b : BitVec 4) (x : BitVec 8) : nibble (nibbles8 a b x) 2 = b := by
  show (a ++ b ++ x).extractLsb' 8 4 = b
  rw [extract_append_high _ _ _ _ (by omega), extract_append_low _ _ _ _ (by omega)]
  exact extract_whole b
@[simp] theorem nibble_nibbles8_low (a b : BitVec 4) (x : BitVec 8) :
    nibble (nibbles8 a b x) 1 ++ nibble (nibbles8 a b x) 0 = x := by
  show (a ++ b ++ x).extractLsb' (0 + 4) 4 ++ (a ++ b ++ x).extractLsb' 0 4 = x
  rw [extract_append_extract, extract_append_low _ _ _ _ (by omega)]
  exact extract_whole x

@[simp] theorem nibble_nibbles12_3 (a : BitVec 4) (x : BitVec 12) : nibble (nibbles12 a x) 3 = a := by
  show (a ++ x).extractLsb' 12 4 = a
  rw [extract_append_high _ _ _ _ (by omega)]
  exact extract_whole a
@[simp] theorem disp_nibbles12 (a : BitVec 4) (x : BitVec 12) : (nibbles12 a x).extractLsb' 0 12 = x := by
  show (a ++ x).extractLsb' 0 12 = x
  rw [extract_append_low _ _ _ _ (by omega)]
  exact extract_whole x
@[simp] theorem nibble_nibbles12_low (a : BitVec 4) (x : BitVec 12) :
    nibble (nibbles12 a x) 2 ++ nibble (nibbles12 a x) 1 ++ nibble (nibbles12 a x) 0 = x := by
  have h : (nibbles12 a x).extractLsb' (4 + 4) 4 ++ (nibbles12 a x).extractLsb' 4 4 ++
      (nibbles12 a x).extractLsb' 0 4 = (nibbles12 a x).extractLsb' 0 12 := by
    rw [extract_append_extract]
    exact extract_append_extract (nibbles12 a x) 0 (4 + 4) 4
  exact h.trans (disp_nibbles12 a x)

@[simp] theorem bit_bitNibble (t : BitVec 1) (i : BitVec 3) : (bitNibble t i)[3] = t[0] := by
  rw [← BitVec.getLsbD_eq_getElem]
  show (t ++ i).getLsbD 3 = t[0]
  rw [BitVec.getLsbD_append]; rfl
@[simp] theorem number_bitNibble (t : BitVec 1) (i : BitVec 3) : (bitNibble t i).extractLsb' 0 3 = i := by
  show (t ++ i).extractLsb' 0 3 = i
  rw [extract_append_low _ _ _ _ (by omega)]
  exact extract_whole i

/-- The two parts of a 20-bit immediate. -/
@[simp] theorem immediate20 (i : BitVec 20) : i.extractLsb' 16 4 ++ i.extractLsb' 0 16 = i :=
  (extract_append_extract i 0 4 16).trans (extract_whole i)

/-- The three parts of a 20-bit immediate, as the bytes hold them. -/
@[simp] theorem immediate20_bytes (i : BitVec 20) :
    i.extractLsb' 16 4 ++ (i.extractLsb' 8 8 ++ i.extractLsb' 0 8) = i := by
  have h : i.extractLsb' (0 + 8) 8 ++ i.extractLsb' 0 8 = i.extractLsb' 0 (8 + 8) := extract_append_extract i 0 8 8
  exact (congrArg (i.extractLsb' 16 4 ++ ·) h).trans (immediate20 i)

/-- The two bytes of a code unit, as the machine stores and fetches them (R83). -/
@[simp] theorem unit_bytes (w : Half) : w.extractLsb' 8 8 ++ w.extractLsb' 0 8 = w :=
  (extract_append_extract w 0 8 8).trans (extract_whole w)

/-- The bytes of one code unit. -/
@[simp] theorem unitBytes_one (w : Half) : unitBytes [w] = [w.extractLsb' 8 8, w.extractLsb' 0 8] := rfl

/-- The bytes of two code units. -/
@[simp] theorem unitBytes_two (v w : Half) :
    unitBytes [v, w] = [v.extractLsb' 8 8, v.extractLsb' 0 8, w.extractLsb' 8 8, w.extractLsb' 0 8] := rfl

end Sys2Proof
end

