-- ==== Sys2Proof/Laws/Inv.lean ====
section
/-!
SUPPORT. Every shared operation keeps the invariant of Safety.lean, up to the end of an instruction and exception entry.
Each lemma takes the invariant of the state before and gives that of the state after, so that a chain of operations is
followed by a term such as `((h.store8 _ _).setReg _ _).done _`.
-/

namespace Sys2Proof.Machine

open Sys2Proof

/-- The invariant speaks of nine fields; a state that agrees on them has it too. -/
theorem State.Inv.of_same {s t : State} (h : s.Inv) (hm : t.mem = s.mem) (hs : t.sr = s.sr) (hc : t.cfg = s.cfg)
    (hf : t.fpscr = s.fpscr) (hb : t.banks = s.banks) (hn : t.bn = s.bn) (hi : t.ibcr = s.ibcr)
    (hp : t.power = s.power) (hl : t.slot = s.slot) : t.Inv :=
  ⟨hm ▸ h.memory, hs ▸ h.status, hc ▸ h.mask, by rw [hf, hc]; exact h.fpscr, by rw [hb, hn]; exact h.banks,
    hb ▸ h.count, hi ▸ h.control, by rw [hp, hl]; exact h.lowPower⟩

/-! ### Registers -/

theorem State.Inv.setReg {s : State} (h : s.Inv) (n : GReg) (v : Word) : (s.setReg n v).Inv :=
  h.of_same rfl rfl rfl rfl rfl rfl rfl rfl rfl
theorem State.Inv.setFreg {s : State} (h : s.Inv) (n : FReg) (v : Word) : (s.setFreg n v).Inv :=
  h.of_same rfl rfl rfl rfl rfl rfl rfl rfl rfl
theorem State.Inv.setDreg {s : State} (h : s.Inv) (n : DReg) (v : Quad) : (s.setDreg n v).Inv :=
  h.of_same rfl rfl rfl rfl rfl rfl rfl rfl rfl
theorem State.Inv.setGbr {s : State} (h : s.Inv) (v : Word) : (s.setGbr v).Inv :=
  h.of_same rfl rfl rfl rfl rfl rfl rfl rfl rfl
theorem State.Inv.setVbr {s : State} (h : s.Inv) (v : Word) : (s.setVbr v).Inv :=
  h.of_same rfl rfl rfl rfl rfl rfl rfl rfl rfl
theorem State.Inv.setTbr {s : State} (h : s.Inv) (v : Word) : (s.setTbr v).Inv :=
  h.of_same rfl rfl rfl rfl rfl rfl rfl rfl rfl
theorem State.Inv.setMach {s : State} (h : s.Inv) (v : Word) : (s.setMach v).Inv :=
  h.of_same rfl rfl rfl rfl rfl rfl rfl rfl rfl
theorem State.Inv.setMacl {s : State} (h : s.Inv) (v : Word) : (s.setMacl v).Inv :=
  h.of_same rfl rfl rfl rfl rfl rfl rfl rfl rfl
theorem State.Inv.setPr {s : State} (h : s.Inv) (v : Word) : (s.setPr v).Inv :=
  h.of_same rfl rfl rfl rfl rfl rfl rfl rfl rfl
theorem State.Inv.link {s : State} (h : s.Inv) (v : Word) : (s.link v).Inv :=
  h.of_same rfl rfl rfl rfl rfl rfl rfl rfl rfl
theorem State.Inv.setMac {s : State} (h : s.Inv) (v : Quad) : (s.setMac v).Inv :=
  h.of_same rfl rfl rfl rfl rfl rfl rfl rfl rfl
theorem State.Inv.setFpul {s : State} (h : s.Inv) (v : Word) : (s.setFpul v).Inv :=
  h.of_same rfl rfl rfl rfl rfl rfl rfl rfl rfl
theorem State.Inv.drawn {s : State} (h : s.Inv) (k : Nat) : (s.drawn k).Inv :=
  h.of_same rfl rfl rfl rfl rfl rfl rfl rfl rfl
theorem State.Inv.addressError {s : State} (h : s.Inv) : s.addressError.Inv :=
  h.of_same rfl rfl rfl rfl rfl rfl rfl rfl rfl

/-! ### SR -/

/-- Every bit of a longword that lies outside a mask, read one at a time. -/
theorem outside_iff (a k : Word) : a &&& ~~~k = 0 ↔ ∀ i, a.getLsbD i = true → k.getLsbD i = true := by
  constructor
  · intro h i ha
    have h1 := congrArg (fun x => x.getLsbD i) h
    have hi : i < 32 := by
      by_contra hn
      rw [BitVec.getLsbD_of_ge a i (by omega)] at ha
      cases ha
    simpa [hi, ha] using h1
  · intro h
    apply BitVec.eq_of_getLsbD_eq
    intro i hi
    have h1 := h i
    cases ha : a.getLsbD i
    · simp [ha]
    · simp [ha, hi, h1 ha]

theorem outside_or {a b k : Word} (ha : a &&& ~~~k = 0) (hb : b &&& ~~~k = 0) : (a ||| b) &&& ~~~k = 0 := by
  rw [outside_iff] at *
  intro i h
  rcases Bool.or_eq_true_iff.mp (by simpa using h : (a.getLsbD i || b.getLsbD i) = true) with h | h
  · exact ha i h
  · exact hb i h

theorem outside_and {a k : Word} (b : Word) (ha : a &&& ~~~k = 0) : a &&& b &&& ~~~k = 0 := by
  rw [outside_iff] at *
  intro i h
  exact ha i (by rw [BitVec.getLsbD_and] at h; exact (Bool.and_eq_true_iff.mp h).1)

theorem outside_masked (a k : Word) : a &&& k &&& ~~~k = 0 := by
  rw [outside_iff]
  intro i h
  rw [BitVec.getLsbD_and] at h
  exact (Bool.and_eq_true_iff.mp h).2

theorem outside_mono {a j k : Word} (ha : a &&& ~~~j = 0) (hj : j &&& ~~~k = 0) : a &&& ~~~k = 0 := by
  rw [outside_iff] at *
  exact fun i h => hj i (ha i h)

theorem outside_xor {a b k : Word} (ha : a &&& ~~~k = 0) (hb : b &&& ~~~k = 0) : (a ^^^ b) &&& ~~~k = 0 := by
  rw [outside_iff] at *
  intro i h
  rw [BitVec.getLsbD_xor] at h
  cases h1 : a.getLsbD i
  · rw [h1, Bool.false_xor] at h; exact hb i h
  · exact ha i h1

/-- A write of one defined bit of SR keeps the reserved bits clear. -/
theorem withBit_reserved (w : Word) (k : Nat) (b : Bool) (hk : (1#32 <<< k) &&& ~~~srMask = 0)
    (h : w &&& ~~~srMask = 0) : withBit w k b &&& ~~~srMask = 0 := by
  unfold withBit
  cases b
  · exact outside_and _ h
  · exact outside_or h hk

/-- A state that differs in SR alone keeps the invariant when the reserved bits stay clear. -/
theorem State.Inv.of_status {s : State} (h : s.Inv) (w : Word) (hw : w &&& ~~~srMask = 0) :
    State.Inv { s with sr := w } :=
  ⟨h.memory, hw, h.mask, h.fpscr, h.banks, h.count, h.control, h.lowPower⟩

theorem State.Inv.setT {s : State} (h : s.Inv) (b : Bool) : (s.setT b).Inv :=
  h.of_status _ (withBit_reserved s.sr 0 b (by decide) h.status)
theorem State.Inv.setQ {s : State} (h : s.Inv) (b : Bool) : (s.setQ b).Inv :=
  h.of_status _ (withBit_reserved s.sr 8 b (by decide) h.status)
theorem State.Inv.setM {s : State} (h : s.Inv) (b : Bool) : (s.setM b).Inv :=
  h.of_status _ (withBit_reserved s.sr 9 b (by decide) h.status)
theorem State.Inv.setCs {s : State} (h : s.Inv) (b : Bool) : (s.setCs b).Inv :=
  h.of_status _ (withBit_reserved s.sr 13 b (by decide) h.status)
theorem State.Inv.setBo {s : State} (h : s.Inv) (b : Bool) : (s.setBo b).Inv :=
  h.of_status _ (withBit_reserved s.sr 14 b (by decide) h.status)
theorem State.Inv.setSr {s : State} (h : s.Inv) (v : Word) : (s.setSr v).Inv := h.of_status _ (outside_masked v _)
theorem State.Inv.setImask {s : State} (h : s.Inv) (l : BitVec 4) : (s.setImask l).Inv :=
  h.of_status _ (outside_or (outside_and _ h.status) (by revert l; decide))

/-! ### FPSCR -/

theorem State.Inv.setFpscr {s : State} (h : s.Inv) (v : Word) : (s.setFpscr v).Inv :=
  ⟨h.memory, h.status, h.mask, outside_masked v _, h.banks, h.count, h.control, h.lowPower⟩

/-- Bits of FPSCR that lie in the mask stay in it. -/
theorem State.Inv.of_fpscr {s : State} (h : s.Inv) (w : Word) (hw : w &&& ~~~s.cfg.fpscrMask = 0) :
    State.Inv { s with fpscr := w } :=
  ⟨h.memory, h.status, h.mask, hw, h.banks, h.count, h.control, h.lowPower⟩

/-- Bits that every product has lie in the mask. -/
theorem State.Inv.in_mask {s : State} (h : s.Inv) {r : Word} (hr : r &&& ~~~(0x003FFFFF#32) = 0) :
    r &&& ~~~s.cfg.fpscrMask = 0 := by
  refine outside_mono hr ?_
  rcases h.mask with hm | hm <;> rw [hm] <;> decide

theorem State.Inv.fpRaise {s : State} (h : s.Inv) (r : Word) (hr : r &&& ~~~(0x003FFFFF#32) = 0) :
    (s.fpRaise r).Inv := h.of_fpscr _ (outside_or (outside_and _ h.fpscr) (h.in_mask hr))

/-! ### Memory -/

theorem State.Inv.poke {s : State} (h : s.Inv) (a : Word) (v : Byte) : (s.poke a v).Inv := by
  have hm := State.poke_wf s a v h.memory
  refine ⟨hm, ?_, ?_, ?_, ?_, ?_, ?_, ?_⟩
  · simpa using h.status
  · simpa using h.mask
  · simpa using h.fpscr
  · simpa using h.banks
  · simpa using h.count
  · unfold State.poke
    split
    · exact h.control
    · have := h.control
      show (v ++ lowByte s.ibcr).getLsbD 0 = false
      rw [BitVec.getLsbD_append]
      simpa [lowByte] using this
    · show (highByte s.ibcr ++ (v &&& 0xFE)).getLsbD 0 = false
      rw [BitVec.getLsbD_append]
      simp
    · exact h.control
    · exact h.control
  · simpa using h.lowPower

theorem State.Inv.poke16 {s : State} (h : s.Inv) (a : Word) (v : Half) : (s.poke16 a v).Inv := (h.poke _ _).poke _ _
theorem State.Inv.poke32 {s : State} (h : s.Inv) (a : Word) (v : Word) : (s.poke32 a v).Inv :=
  (((h.poke _ _).poke _ _).poke _ _).poke _ _
theorem State.Inv.poke64 {s : State} (h : s.Inv) (a : Word) (v : Quad) : (s.poke64 a v).Inv :=
  (h.poke32 _ _).poke32 _ _

theorem State.Inv.store8 {s : State} (h : s.Inv) (a : Word) (v : Byte) : (s.store8 a v).Inv := by
  unfold State.store8; split
  · exact h.poke _ _
  · exact h.addressError
theorem State.Inv.store16 {s : State} (h : s.Inv) (a : Word) (v : Half) : (s.store16 a v).Inv := by
  unfold State.store16; split
  · exact h.poke16 _ _
  · exact h.addressError
theorem State.Inv.store32 {s : State} (h : s.Inv) (a : Word) (v : Word) : (s.store32 a v).Inv := by
  unfold State.store32; split
  · exact h.poke32 _ _
  · exact h.addressError
theorem State.Inv.store64 {s : State} (h : s.Inv) (a : Word) (v : Quad) : (s.store64 a v).Inv := by
  unfold State.store64; split
  · exact h.poke64 _ _
  · exact h.addressError

theorem State.Inv.deliver {s : State} (h : s.Inv) (v : Option Word) : (s.deliver v).2.Inv := by
  cases v
  · exact (h.drawn 1).addressError
  · exact h
theorem State.Inv.deliver64 {s : State} (h : s.Inv) (v : Option Quad) : (s.deliver64 v).2.Inv := by
  cases v
  · exact (h.drawn 2).addressError
  · exact h
theorem State.Inv.load32 {s : State} (h : s.Inv) (a : Word) : (s.load32 a).2.Inv := h.deliver _
theorem State.Inv.load64 {s : State} (h : s.Inv) (a : Word) : (s.load64 a).2.Inv := h.deliver64 _
theorem State.Inv.load8s {s : State} (h : s.Inv) (a : Word) : (s.load8s a).2.Inv := h.deliver _
theorem State.Inv.load16s {s : State} (h : s.Inv) (a : Word) : (s.load16s a).2.Inv := h.deliver _
theorem State.Inv.load8u {s : State} (h : s.Inv) (a : Word) : (s.load8u a).2.Inv := h.deliver _
theorem State.Inv.load16u {s : State} (h : s.Inv) (a : Word) : (s.load16u a).2.Inv := h.deliver _
theorem State.Inv.push {s : State} (h : s.Inv) (v : Word) : (s.push v).Inv := (h.store32 _ _).setReg _ _
theorem State.Inv.pop {s : State} (h : s.Inv) : s.pop.2.Inv := (h.load32 _).setReg _ _

/-! ### Control -/

theorem State.Inv.goto {s : State} (h : s.Inv) (a : Word) : (s.goto a).Inv :=
  ⟨h.memory, h.status, h.mask, h.fpscr, h.banks, h.count, h.control, fun _ => rfl⟩
/-- A delayed branch runs with the power on. -/
theorem State.Inv.delayTo {s : State} (h : s.Inv) (hp : s.power = .run) (a : Word) : (s.delayTo a).Inv :=
  ⟨h.memory, h.status, h.mask, h.fpscr, h.banks, h.count, h.control, fun x => by
    have : s.power = .lowPower := x
    simp [hp] at this⟩
theorem State.Inv.delayNone {s : State} (h : s.Inv) (hp : s.power = .run) : s.delayNone.Inv :=
  ⟨h.memory, h.status, h.mask, h.fpscr, h.banks, h.count, h.control, fun x => by
    have : s.power = .lowPower := x
    simp [hp] at this⟩
theorem State.Inv.withHeld {s : State} (h : s.Inv) (b : Bool) : State.Inv { s with held := b } :=
  h.of_same rfl rfl rfl rfl rfl rfl rfl rfl rfl

/-! ### Exception entry -/

theorem State.Inv.scramble {s : State} (h : s.Inv) (a : Word) : (s.scramble a).Inv := by
  unfold State.scramble
  split
  · exact (h.poke32 _ _).drawn _
  · exact (((h.poke32 _ _).drawn _).poke32 _ _).drawn _
theorem State.Inv.entryPush {s : State} (h : s.Inv) (v : Word) : (s.entryPush v).Inv := by
  unfold State.entryPush
  simp only
  split
  · exact (h.setReg _ _).poke32 _ _
  · exact ((h.setReg _ _).scramble _).addressError
theorem State.Inv.entryPushList (l : List Word) : ∀ {s : State}, s.Inv → (l.foldl State.entryPush s).Inv := by
  induction l with
  | nil => exact fun h => h
  | cons v rest ih => exact fun h => ih (h.entryPush v)
theorem State.Inv.entryPushBank {s : State} (h : s.Inv) : s.entryPushBank.Inv := State.Inv.entryPushList _ h

/-- What no part of an entry touches. -/
theorem State.scramble_fixed (s : State) (a : Word) :
    (s.scramble a).bn = s.bn ∧ (s.scramble a).banks = s.banks := by
  unfold State.scramble; split <;> simp
theorem State.entryPush_fixed (s : State) (v : Word) :
    (s.entryPush v).bn = s.bn ∧ (s.entryPush v).banks = s.banks := by
  unfold State.entryPush; simp only; split
  · simp
  · exact State.scramble_fixed (s.setReg 15 (s.sp - 4)) (s.sp - 4)
theorem State.deliver_fixed (s : State) (v : Option Word) :
    (s.deliver v).2.bn = s.bn ∧ (s.deliver v).2.banks = s.banks := by
  cases v <;> exact ⟨rfl, rfl⟩

/-- An entry that saves to a bank needs a free one. -/
theorem State.Inv.saveBank {s : State} (h : s.Inv) (vto : Word) (b : BankSave)
    (hb : b = .toBank → s.bn < s.banks.length) : (s.saveBank vto b).Inv := by
  cases b
  · exact h
  · exact ⟨h.memory, h.status, h.mask, h.fpscr, by
      show s.bn + 1 ≤ (s.banks.set s.bn (s.bankImage vto)).length
      rw [List.length_set]; exact hb rfl, by
      show 1 ≤ (s.banks.set s.bn (s.bankImage vto)).length ∧ (s.banks.set s.bn (s.bankImage vto)).length ≤ 512
      rw [List.length_set]; exact h.count, h.control, h.lowPower⟩
  · exact h.entryPushBank.setBo _

theorem State.Inv.enterOnce {s : State} (h : s.Inv) (e : Exc) (saved : Word) (mask : Option (BitVec 4)) (b : BankSave)
    (hb : b = .toBank → s.bn < s.banks.length) : (s.enterOnce e saved mask b).Inv := by
  have hl := State.deliver_fixed s (s.read32 (s.vbr + e.vector <<< 2))
  have h1 := State.entryPush_fixed (s.load32 (s.vbr + e.vector <<< 2)).2 s.sr
  have h2 := State.entryPush_fixed ((s.load32 (s.vbr + e.vector <<< 2)).2.entryPush s.sr) saved
  have hi := (((h.load32 (s.vbr + e.vector <<< 2)).entryPush s.sr).entryPush saved).saveBank (e.vector <<< 2) b
    (fun x => by
      rw [h2.1, h1.1, h2.2, h1.2, State.load32, hl.1, hl.2]; exact hb x)
  have hj (t : State) (ht : t.Inv) (a : Word) : State.Inv { t with pc := a, slot := .none, power := .run } :=
    ⟨ht.memory, ht.status, ht.mask, ht.fpscr, ht.banks, ht.count, ht.control, fun _ => rfl⟩
  unfold State.enterOnce
  cases mask
  · exact hj _ hi _
  · exact hj _ (hi.setImask _) _

theorem State.Inv.enter {s : State} (h : s.Inv) (e : Exc) (saved : Word) (mask : Option (BitVec 4)) (b : BankSave)
    (hb : b = .toBank → s.bn < s.banks.length) : (s.enter e saved mask b).Inv := by
  have ht := (h.withHeld false).enterOnce e saved mask b hb
  unfold State.enter
  simp only
  split
  · exact ht.withHeld _
  · split
    · exact ((ht.withHeld _).enterOnce _ _ _ _ (fun x => by cases x)).withHeld _
    · exact ht.withHeld _

theorem State.Inv.raise {s : State} (h : s.Inv) (e : Exc) (saved : Word) : (s.raise e saved).Inv :=
  h.enter e saved none .nowhere (fun x => by cases x)
theorem State.Inv.acceptHeld {s : State} (h : s.Inv) : s.acceptHeld.Inv := by
  unfold State.acceptHeld; split
  · exact h.raise _ _
  · exact h
theorem State.Inv.complete {s : State} (h : s.Inv) (len : Word) : (s.complete len).Inv := (h.goto _).acceptHeld
theorem State.Inv.jump {s : State} (h : s.Inv) (a : Word) : (s.jump a).Inv := (h.goto a).acceptHeld
theorem State.Inv.illegal {s : State} (h : s.Inv) (len : Word) : (s.illegal len).Inv := by
  unfold State.illegal; split <;> exact h.raise _ _

/-! ### Answers -/

/-- An answer keeps the invariant when every next state it gives has it. -/
def Res.Keeps (r : Res) : Prop := ∀ t, r = .next t → t.Inv

theorem Res.keeps_next {t : State} (h : t.Inv) : Res.Keeps (.next t) := fun u hu => by cases hu; exact h
theorem Res.keeps_fault (f : Fault) : Res.Keeps (.fault f) := fun _ hu => by cases hu
theorem State.Inv.done {s : State} (h : s.Inv) (len : Word) : (s.done len).Keeps := Res.keeps_next (h.complete len)
theorem State.Inv.putReg {s : State} (h : s.Inv) (len : Word) (n : GReg) (v : Word) : (s.putReg len n v).Keeps :=
  (h.setReg n v).done len
theorem State.Inv.outsideSlot {s : State} (h : s.Inv) (len : Word) {r : Res} (hr : r.Keeps) :
    (s.outsideSlot len r).Keeps := by
  unfold State.outsideSlot; split
  · exact hr
  · exact Res.keeps_next (h.illegal len)
theorem State.Inv.withFpu {s : State} (h : s.Inv) (len : Word) {r : Res} (hr : r.Keeps) :
    (s.withFpu len r).Keeps := by
  unfold State.withFpu; split
  · exact hr
  · exact Res.keeps_next (h.illegal len)
theorem State.Inv.withBanks {s : State} (h : s.Inv) {r : Res} (hr : r.Keeps) : (s.withBanks r).Keeps := by
  unfold State.withBanks; split
  · exact hr
  · exact Res.keeps_next (h.illegal 2)
theorem State.Inv.withPrecision {s : State} (h : s.Inv) (b : Bool) {r : Res} (hr : r.Keeps) :
    (s.withPrecision b r).Keeps := by
  unfold State.withPrecision; split
  · exact hr
  · exact Res.keeps_next (h.illegal 2)
theorem State.Inv.fpuTrap {s : State} (h : s.Inv) : s.fpuTrap.Keeps := Res.keeps_next ((h.complete 2).raise _ _)

/-! ### Shapes of the families -/

theorem State.Inv.modifyByte {s : State} (h : s.Inv) (a : Word) (f : Byte → Byte) : (s.modifyByte a f).Inv := by
  unfold State.modifyByte; split
  · exact h.store8 _ _
  · exact h.addressError
theorem State.Inv.testByte {s : State} (h : s.Inv) (a : Word) (f : Byte → Bool) : (s.testByte a f).Inv := by
  unfold State.testByte; split
  · exact h.setT _
  · exact h.addressError
theorem State.Inv.storeControl {s : State} (h : s.Inv) (n : GReg) (v : Word) : (s.storeControl n v).Inv :=
  (h.store32 _ _).setReg _ _
theorem State.Inv.pushList (l : List Nat) : ∀ {s : State}, s.Inv → (s.pushList l).Inv := by
  induction l with
  | nil => exact fun h => h
  | cons k rest ih => exact fun h => ih (h.push _)
theorem State.Inv.setListReg {s : State} (h : s.Inv) (k : Nat) (v : Word) : (s.setListReg k v).Inv := by
  unfold State.setListReg; split
  · exact h.setPr v
  · exact h.setReg _ v
theorem State.Inv.popList (l : List Nat) : ∀ {s : State}, s.Inv → (s.popList l).Inv := by
  induction l with
  | nil => exact fun h => h
  | cons k rest ih => exact fun h => ih (((h.load32 _).setListReg k _).setReg _ _)

end Sys2Proof.Machine
end

