-- ==== Sys2Proof/Laws/Events.lean ====
section
/-!
SUPPORT. What the environment does at a step and what event the step is, said once, and that the environment keeps the
invariant.
-/

namespace Sys2Proof.Machine

open Sys2Proof

/-! ### Resets -/

/-- Power-on before manual (R701, R800). -/
theorem Outside.reset_powerOn {o : Outside} (h : o.powerOn = true) : o.reset = some .powerOn := by
  simp [Outside.reset, h]
theorem Outside.reset_manual {o : Outside} (h : o.powerOn = false) (hm : o.manual = true) : o.reset = some .manual := by
  simp [Outside.reset, h, hm]
theorem Outside.reset_none {o : Outside} (h : o.powerOn = false) (hm : o.manual = false) : o.reset = none := by
  simp [Outside.reset, h, hm]

theorem State.resetSignal_nil {s : State} (h : s.outside = []) : s.resetSignal = none := by simp [State.resetSignal, h]
theorem State.resetSignal_cons {s : State} {o : Outside} {os : List Outside} (h : s.outside = o :: os) :
    s.resetSignal = o.reset := by simp [State.resetSignal, h]

/-- A reset is delivered at every step whose entry asks for it, in whatever the machine is. -/
theorem step_reset {s : State} {k : ResetKind} (h : s.resetSignal = some k) :
    step s = s.environment.resetMachine k := by simp [step, h]
theorem step_noReset {s : State} (h : s.resetSignal = none) : step s = s.environment.stepNoReset := by simp [step, h]

/-- Nothing that was held or pending survives a reset (R57, R803). -/
@[simp] theorem State.resetCpu_held (s : State) (pc sp : Word) : (s.resetCpu pc sp).held = false := rfl
@[simp] theorem State.resetCpu_slot (s : State) (pc sp : Word) : (s.resetCpu pc sp).slot = .none := rfl
@[simp] theorem State.resetCpu_inputs (s : State) (pc sp : Word) : (s.resetCpu pc sp).inputs = s.inputs.tail := rfl
@[simp] theorem State.resetRest_inputs (s : State) : s.resetRest.inputs = s.inputs := rfl

/-! ### Signals at a boundary -/

theorem Inputs.keepPending_idle (rest : List Inputs) : Inputs.keepPending ⟨false, false, none⟩ rest = rest := rfl
theorem Inputs.keepPending_ramError {i : Inputs} (rest : List Inputs) (h : i.ramError = true) :
    i.keepPending rest = i :: rest := by simp [Inputs.keepPending, h]
theorem Inputs.keepPending_request {i : Inputs} {r : IntReq} (rest : List Inputs) (h : i.request = some r) :
    i.keepPending rest = i :: rest := by simp [Inputs.keepPending, h]

/-- In the slot of a taken branch there is no boundary (R422, R750). -/
theorem State.event_slot {s : State} {target : Word} (h : s.slot = .taken target) : s.event = .execute s := by
  simp [State.event, h]
/-- A held address error comes before the boundary's signals, which wait (rank 3 of R701). -/
theorem State.event_held {s : State} (h : ∀ target, s.slot ≠ .taken target) (hh : s.held = true) :
    s.event = .next (s.raise .cpuAddressError s.pc) := by
  unfold State.event
  split
  · exact absurd ‹_› (h _)
  · simp [hh]
/-- A boundary with an entry of inputs. -/
theorem State.event_boundary {s : State} {i : Inputs} {rest : List Inputs} (h : ∀ target, s.slot ≠ .taken target)
    (hh : s.held = false) (hi : s.inputs = i :: rest) : s.event = s.boundary i rest := by
  unfold State.event
  split
  · exact absurd ‹_› (h _)
  · simp [hh, hi]
/-- A boundary where nothing more is signalled. -/
theorem State.event_idle {s : State} (h : ∀ target, s.slot ≠ .taken target) (hh : s.held = false) (hi : s.inputs = []) :
    s.event = if s.power = .lowPower then .next s else .execute s := by
  unfold State.event
  split
  · exact absurd ‹_› (h _)
  · simp [hh, hi]

/-! ### Writes of other bus masters -/

@[simp] theorem State.busWrites_nil (s : State) : s.busWrites [] = s := rfl
@[simp] theorem State.busWrites_cons (s : State) (w : Word × Byte) (ws : List (Word × Byte)) :
    s.busWrites (w :: ws) = (s.poke w.1 w.2).busWrites ws := rfl

/-- Such writes change memory and the bank registers that lie in it, nothing else. -/
theorem State.busWrites_frame (ws : List (Word × Byte)) : ∀ s : State, ∃ m c e o,
    s.busWrites ws = { s with mem := m, ibcr := c, ibnrBe := e, ibnrBove := o } := by
  induction ws with
  | nil => exact fun s => ⟨s.mem, s.ibcr, s.ibnrBe, s.ibnrBove, rfl⟩
  | cons w ws ih =>
    intro s
    obtain ⟨m, c, e, o, h⟩ := s.poke_frame w.1 w.2
    obtain ⟨m', c', e', o', h'⟩ := ih (s.poke w.1 w.2)
    exact ⟨m', c', e', o', by rw [State.busWrites_cons, h', h]⟩

/-- What the environment can change at a step: memory, the bank registers in it, FPU_STOPPED, and its own list. -/
theorem State.environment_frame (s : State) : ∃ m c e o f l,
    s.environment = { s with mem := m, ibcr := c, ibnrBe := e, ibnrBove := o, fpuStopped := f, outside := l } := by
  unfold State.environment
  split
  · exact ⟨s.mem, s.ibcr, s.ibnrBe, s.ibnrBove, s.fpuStopped, s.outside, rfl⟩
  · rename_i o rest _
    obtain ⟨m, c, e, v, h⟩ := State.busWrites_frame o.writes s
    exact ⟨m, c, e, v, o.fpuStopped.getD s.fpuStopped, rest, by simp only [h]⟩

theorem State.environment_none {s : State} (h : s.outside = []) : s.environment = s := by
  unfold State.environment; rw [h]

section Environment

variable (s : State)

@[simp] theorem State.environment_regs : s.environment.regs = s.regs := by
  obtain ⟨m, c, e, o, f, l, h⟩ := s.environment_frame; rw [h]
@[simp] theorem State.environment_fregs : s.environment.fregs = s.fregs := by
  obtain ⟨m, c, e, o, f, l, h⟩ := s.environment_frame; rw [h]
@[simp] theorem State.environment_pc : s.environment.pc = s.pc := by
  obtain ⟨m, c, e, o, f, l, h⟩ := s.environment_frame; rw [h]
@[simp] theorem State.environment_sr : s.environment.sr = s.sr := by
  obtain ⟨m, c, e, o, f, l, h⟩ := s.environment_frame; rw [h]
@[simp] theorem State.environment_fpscr : s.environment.fpscr = s.fpscr := by
  obtain ⟨m, c, e, o, f, l, h⟩ := s.environment_frame; rw [h]
@[simp] theorem State.environment_slot : s.environment.slot = s.slot := by
  obtain ⟨m, c, e, o, f, l, h⟩ := s.environment_frame; rw [h]
@[simp] theorem State.environment_held : s.environment.held = s.held := by
  obtain ⟨m, c, e, o, f, l, h⟩ := s.environment_frame; rw [h]
@[simp] theorem State.environment_power : s.environment.power = s.power := by
  obtain ⟨m, c, e, o, f, l, h⟩ := s.environment_frame; rw [h]
@[simp] theorem State.environment_banks : s.environment.banks = s.banks := by
  obtain ⟨m, c, e, o, f, l, h⟩ := s.environment_frame; rw [h]
@[simp] theorem State.environment_bn : s.environment.bn = s.bn := by
  obtain ⟨m, c, e, o, f, l, h⟩ := s.environment_frame; rw [h]
@[simp] theorem State.environment_inputs : s.environment.inputs = s.inputs := by
  obtain ⟨m, c, e, o, f, l, h⟩ := s.environment_frame; rw [h]
@[simp] theorem State.environment_cfg : s.environment.cfg = s.cfg := by
  obtain ⟨m, c, e, o, f, l, h⟩ := s.environment_frame; rw [h]

end Environment

/-! ### The invariant -/

theorem State.Inv.busWrites (ws : List (Word × Byte)) : ∀ {s : State}, s.Inv → (s.busWrites ws).Inv := by
  induction ws with
  | nil => exact fun h => h
  | cons w ws ih => exact fun h => ih (h.poke w.1 w.2)

theorem State.Inv.environment {s : State} (h : s.Inv) : s.environment.Inv := by
  unfold State.environment
  split
  · exact h
  · rename_i o rest _
    exact (h.busWrites o.writes).of_same rfl rfl rfl rfl rfl rfl rfl rfl rfl

end Sys2Proof.Machine
end

