-- ==== Sys2Proof/Laws/Float.lean ====
section
/-!
SUPPORT. What the floating-point operations can raise, and that delivering a result keeps the invariant.
-/

namespace Sys2Proof.Machine

open Sys2Proof

/-- A result raises Cause and Flag bits only, all of which every product has (R505). -/
def FpResult.Raises (r : FpResult) : Prop := r.raised &&& ~~~(0x003FFFFF#32) = 0

theorem FpResult.exact_raises (x : Nat) : (FpResult.exact x).Raises :=
  show (0 : Word) &&& ~~~(0x003FFFFF#32) = 0 from by decide
theorem FpResult.unstated_raises : FpResult.unstated.Raises :=
  show (0 : Word) &&& ~~~(0x003FFFFF#32) = 0 from by decide
theorem FpResult.fpuError_raises : FpResult.fpuError.Raises :=
  show raiseE &&& ~~~(0x003FFFFF#32) = 0 from by decide
theorem FpResult.invalid_raises (f : Fmt) (env : FpEnv) : (FpResult.invalid f env).Raises :=
  show raiseV &&& ~~~(0x003FFFFF#32) = 0 from by decide
theorem FpResult.divideByZero_raises (f : Fmt) (env : FpEnv) (neg : Bool) :
    (FpResult.divideByZero f env neg).Raises :=
  show raiseZ &&& ~~~(0x003FFFFF#32) = 0 from by decide
theorem ftrcInvalid_raises (env : FpEnv) (neg : Bool) : (ftrcInvalid env neg).Raises :=
  show raiseV &&& ~~~(0x003FFFFF#32) = 0 from by decide

/-- The computed path raises I, or I and U, or O and I, or nothing (R509). -/
theorem finishValue_raised (f : Fmt) (z : Bool) (x : Exact) :
    (finishValue f z x).1 = 0 ∨ (finishValue f z x).1 = raiseI ∨ (finishValue f z x).1 = raiseI ||| raiseU ∨
      (finishValue f z x).1 = raiseO ||| raiseI := by
  unfold finishValue
  simp only
  split
  · split <;> simp
  · split
    · simp
    · split
      · simp
      · split <;> simp

theorem finish_raises (f : Fmt) (z b : Bool) (x : Exact) : (finish f z b x).Raises := by
  show (finishValue f z x).1 &&& ~~~(0x003FFFFF#32) = 0
  rcases finishValue_raised f z x with h | h | h | h <;> rw [h] <;> decide

theorem fpAdd_raises (f : Fmt) (env : FpEnv) (a b : Nat) : (fpAdd f env a b).Raises := by
  unfold fpAdd
  repeat' split
  all_goals first
    | exact finish_raises _ _ _ _ | exact FpResult.exact_raises _ | exact FpResult.invalid_raises _ _
    | exact FpResult.fpuError_raises
theorem fpSub_raises (f : Fmt) (env : FpEnv) (a b : Nat) : (fpSub f env a b).Raises := fpAdd_raises _ _ _ _
theorem fpMul_raises (f : Fmt) (env : FpEnv) (a b : Nat) : (fpMul f env a b).Raises := by
  unfold fpMul
  simp only
  split <;> first
    | exact finish_raises _ _ _ _ | exact FpResult.exact_raises _ | exact FpResult.invalid_raises _ _
    | exact FpResult.unstated_raises
theorem fpDiv_raises (f : Fmt) (env : FpEnv) (a b : Nat) : (fpDiv f env a b).Raises := by
  unfold fpDiv
  simp only
  split <;> first
    | exact finish_raises _ _ _ _ | exact FpResult.exact_raises _ | exact FpResult.invalid_raises _ _
    | exact FpResult.divideByZero_raises _ _ _ | exact FpResult.unstated_raises
theorem fpMac_raises (env : FpEnv) (c b a : Nat) : (fpMac env c b a).Raises := by
  unfold fpMac
  simp only
  repeat' split
  all_goals first
    | exact finish_raises _ _ _ _ | exact FpResult.exact_raises _ | exact FpResult.invalid_raises _ _
    | exact FpResult.unstated_raises
theorem fpSqrt_raises (f : Fmt) (env : FpEnv) (a : Nat) : (fpSqrt f env a).Raises := by
  unfold fpSqrt
  split <;> first
    | exact finish_raises _ _ _ _ | exact FpResult.exact_raises _ | exact FpResult.invalid_raises _ _
theorem fpDoubleToSingle_raises (env : FpEnv) (a : Nat) : (fpDoubleToSingle env a).Raises := by
  unfold fpDoubleToSingle
  split <;> first
    | exact finish_raises _ _ _ _ | exact FpResult.exact_raises _ | exact FpResult.invalid_raises _ _
    | exact FpResult.unstated_raises
theorem fpSingleToDouble_raises (env : FpEnv) (a : Nat) : (fpSingleToDouble env a).Raises := by
  unfold fpSingleToDouble
  split <;> first | exact FpResult.exact_raises _ | exact FpResult.invalid_raises _ _
theorem fpFloatSingle_raises (env : FpEnv) (k : Int) : (fpFloatSingle env k).Raises := finish_raises _ _ _ _
theorem fpFloatDouble_raises (env : FpEnv) (k : Int) : (fpFloatDouble env k).Raises := finish_raises _ _ _ _
theorem fpTruncSingle_raises (env : FpEnv) (h : Nat) : (fpTruncSingle env h).Raises := by
  unfold fpTruncSingle
  simp only
  repeat' split
  all_goals first | exact ftrcInvalid_raises _ _ | exact FpResult.exact_raises _
theorem fpTruncDouble_raises (env : FpEnv) (h : Nat) : (fpTruncDouble env h).Raises := by
  unfold fpTruncDouble
  simp only
  repeat' split
  all_goals first | exact ftrcInvalid_raises _ _ | exact FpResult.exact_raises _

theorem State.Inv.fpToFr {s : State} (h : s.Inv) (n : FReg) {r : FpResult} (hr : r.Raises) : (s.fpToFr n r).Keeps := by
  refine h.withFpu _ ?_
  have ht := h.fpRaise r.raised hr
  unfold State.fpDeliver32
  simp only
  split
  · exact (ht.setFreg _ _).done _
  · exact ht.fpuTrap
  · exact ((ht.drawn _).setFreg _ _).done _
theorem State.Inv.fpToDr {s : State} (h : s.Inv) (n : DReg) {r : FpResult} (hr : r.Raises) : (s.fpToDr n r).Keeps := by
  refine h.withFpu _ ?_
  have ht := h.fpRaise r.raised hr
  unfold State.fpDeliver64
  simp only
  split
  · exact (ht.setDreg _ _).done _
  · exact ht.fpuTrap
  · exact ((ht.drawn _).setDreg _ _).done _
theorem State.Inv.fpToFpul {s : State} (h : s.Inv) {r : FpResult} (hr : r.Raises) : (s.fpToFpul r).Keeps := by
  refine h.withFpu _ ?_
  have ht := h.fpRaise r.raised hr
  unfold State.fpDeliver32
  simp only
  split
  · exact (ht.setFpul _).done _
  · exact ht.fpuTrap
  · exact ((ht.drawn _).setFpul _).done _
theorem State.Inv.fpCompareT {s : State} (h : s.Inv) (rel want : FpRel) (b : Bool) :
    (s.fpCompareT rel want b).Keeps := by
  refine h.withFpu _ ?_
  have h0 := h.fpRaise 0 (by decide)
  have h1 := h.fpRaise raiseV (by decide)
  simp only
  split
  · split
    · exact (h1.setT _).fpuTrap
    · exact (h1.setT _).done _
  · exact (h0.setT _).done _

end Sys2Proof.Machine
end

