-- ==== Sys2Proof/Tests/Slice0.lean ====
section
/-!
SUPPORT. The model's own tests: ill-formed terms, a word of every row of the opcode table, one-step tests whose expected
results come from spec/95_test_vectors.md, and for every obligation a state and operands that meet its hypotheses.
-/

namespace Sys2Proof.Tests

/-! The tests are elaborated one after another: in parallel they ask for more threads than the memory limit allows. -/
set_option Elab.async false

open Sys2Proof Sys2Proof.Machine

/-! ### Building small states -/

/-- A register. -/
def reg (n : GReg) (v : Word) (s : State) : State := s.setReg n v
/-- A floating-point register. -/
def freg (n : FReg) (v : Word) (s : State) : State := s.setFreg n v
/-- A byte of memory. -/
def byte (a : Word) (v : Byte) (s : State) : State := s.poke a v
/-- A word of memory. -/
def word (a : Word) (v : Half) (s : State) : State := s.poke16 a v
/-- A longword of memory. -/
def long (a v : Word) (s : State) : State := s.poke32 a v
/-- A bit of SR. -/
def bit (k : Nat) (b : Bool) (s : State) : State := { s with sr := withBit s.sr k b }
/-- SR. -/
def putSr (v : Word) (s : State) : State := { s with sr := v }
/-- GBR. -/
def putGbr (v : Word) (s : State) : State := { s with gbr := v }
/-- VBR. -/
def putVbr (v : Word) (s : State) : State := { s with vbr := v }
/-- TBR. -/
def putTbr (v : Word) (s : State) : State := { s with tbr := v }
/-- MACH. -/
def putMach (v : Word) (s : State) : State := { s with mach := v }
/-- MACL. -/
def putMacl (v : Word) (s : State) : State := { s with macl := v }
/-- PR. -/
def putPr (v : Word) (s : State) : State := { s with pr := v }
/-- FPUL. -/
def putFpul (v : Word) (s : State) : State := { s with fpul := v }
/-- FPSCR. -/
def putFpscr (v : Word) (s : State) : State := { s with fpscr := v }
/-- The slot of a taken branch. -/
def slotTo (a : Word) (s : State) : State := { s with slot := .taken a }
/-- The slot of an untaken conditional branch. -/
def slotUntaken (s : State) : State := { s with slot := .untaken }
/-- A product without an FPU. -/
def withoutFpu (s : State) : State := { s with cfg := { s.cfg with hasFpu := false } }
/-- IBNR.BE. -/
def bankEnable (v : BitVec 2) (s : State) : State := { s with ibnrBe := v }
/-- BN. -/
def bankNumber (k : Nat) (s : State) : State := { s with bn := k }
/-- IBNR.BOVE. -/
def overflowEnable (s : State) : State := { s with ibnrBove := true }
/-- A request at the next boundary. -/
def request (r : IntReq) (s : State) : State := { s with inputs := [⟨false, false, some r⟩] }

/-- Errors signalled at the next boundary: the DMAC's and the RAM's. -/
def signals (d e : Bool) (s : State) : State := { s with inputs := [⟨d, e, none⟩] }
/-- What the environment writes, and its change of FPU_STOPPED, at the next step. -/
def outsideActs (ws : List (Word × Byte)) (f : Option Bool) (s : State) : State :=
  { s with outside := [⟨ws, f, false, false⟩] }
/-- The reset lines, power-on and manual, at the next step. -/
def resets (p m : Bool) (s : State) : State := { s with outside := [⟨[], none, p, m⟩] }
/-- Data accesses at `a` to `a + 3` fault. -/
def forbid (a : Word) (s : State) : State := { s with cfg := { s.cfg with dataForbidden := [⟨a, a + 3⟩] } }

/-- A product with IBNR at an address. -/
def ibnrAt (a : Word) (s : State) : State := { s with cfg := { s.cfg with ibnrAddr := some a } }

/-- Code units in memory from an address up. -/
def code : List Half → Word → State → State
  | [], _, s => s
  | w :: ws, a, s => code ws (a + 2) (s.poke16 a w)

/-- A state with code units at 0x1000, control there, and what `setup` adds to the state after reset with SR = 0. -/
def small (ws : List Half) (setup : List (State → State)) : State :=
  code ws 0x1000 (setup.foldl (fun s f => f s) { State.reset with pc := 0x1000, sr := 0 })

/-- One step of a small state gives a next state with a property. -/
def runs (ws : List Half) (setup : List (State → State)) (p : State → Bool) : Bool :=
  match step (small ws setup) with
  | .next t => p t
  | _ => false

/-! ### Well-formedness -/

/-- A pair operand with an odd register is not a well-formed term (R41, R146). -/
theorem test_ill_formed_1 :
    Instr.wellFormed (.fabsDR 3) = false ∧
    Instr.wellFormed (.faddDR 3 2) = false ∧
    Instr.wellFormed (.faddDR 2 3) = false ∧
    Instr.wellFormed (.fcmpEqDR 3 2) = false ∧
    Instr.wellFormed (.fcmpEqDR 2 3) = false ∧
    Instr.wellFormed (.fcmpGtDR 3 2) = false ∧
    Instr.wellFormed (.fcmpGtDR 2 3) = false ∧
    Instr.wellFormed (.fcnvds 3) = false ∧
    Instr.wellFormed (.fcnvsd 3) = false ∧
    Instr.wellFormed (.fdivDR 3 2) = false ∧
    Instr.wellFormed (.fdivDR 2 3) = false ∧
    Instr.wellFormed (.floatDR 3) = false := by
  decide

/-- A pair operand with an odd register is not a well-formed term (R41, R146). -/
theorem test_ill_formed_2 :
    Instr.wellFormed (.fmulDR 3 2) = false ∧
    Instr.wellFormed (.fmulDR 2 3) = false ∧
    Instr.wellFormed (.fnegDR 3) = false ∧
    Instr.wellFormed (.fsqrtDR 3) = false ∧
    Instr.wellFormed (.fsubDR 3 2) = false ∧
    Instr.wellFormed (.fsubDR 2 3) = false ∧
    Instr.wellFormed (.ftrcDR 3) = false ∧
    Instr.wellFormed (.fmovDR 3 2) = false ∧
    Instr.wellFormed (.fmovDR 2 3) = false ∧
    Instr.wellFormed (.fmovDStore 3 2) = false ∧
    Instr.wellFormed (.fmovDLoad 2 3) = false ∧
    Instr.wellFormed (.fmovDLoadPostInc 2 3) = false := by
  decide

/-- A pair operand with an odd register is not a well-formed term (R41, R146). -/
theorem test_ill_formed_3 :
    Instr.wellFormed (.fmovDStorePreDec 3 2) = false ∧
    Instr.wellFormed (.fmovDLoadIdx 2 3) = false ∧
    Instr.wellFormed (.fmovDStoreIdx 3 2) = false ∧
    Instr.wellFormed (.fmovDStoreDisp12 3 2 2) = false ∧
    Instr.wellFormed (.fmovDLoadDisp12 2 3 2) = false := by
  decide

/-- The same terms with even registers are well formed. -/
theorem test_well_formed :
    Instr.wellFormed (.fabsDR 2) = true ∧
    Instr.wellFormed (.faddDR 2 2) = true ∧
    Instr.wellFormed (.fcmpEqDR 2 2) = true ∧
    Instr.wellFormed (.fcmpGtDR 2 2) = true ∧
    Instr.wellFormed (.fcnvds 2) = true ∧
    Instr.wellFormed (.fcnvsd 2) = true ∧
    Instr.wellFormed (.fdivDR 2 2) = true ∧
    Instr.wellFormed (.floatDR 2) = true ∧
    Instr.wellFormed (.fmulDR 2 2) = true ∧
    Instr.wellFormed (.fnegDR 2) = true ∧
    Instr.wellFormed (.fsqrtDR 2) = true ∧
    Instr.wellFormed (.fsubDR 2 2) = true ∧
    Instr.wellFormed (.ftrcDR 2) = true ∧
    Instr.wellFormed (.fmovDR 2 2) = true ∧
    Instr.wellFormed (.fmovDStore 2 2) = true ∧
    Instr.wellFormed (.fmovDLoad 2 2) = true ∧
    Instr.wellFormed (.fmovDLoadPostInc 2 2) = true ∧
    Instr.wellFormed (.fmovDStorePreDec 2 2) = true ∧
    Instr.wellFormed (.fmovDLoadIdx 2 2) = true ∧
    Instr.wellFormed (.fmovDStoreIdx 2 2) = true ∧
    Instr.wellFormed (.fmovDStoreDisp12 2 2 2) = true ∧
    Instr.wellFormed (.fmovDLoadDisp12 2 2 2) = true := by
  decide

/-! ### Decoding: a word of every row, written from its encoding -/

/-- Words from the encodings of R201 to R214 (spec/40_data_transfer.md). -/
theorem test_decode_data_transfer_1 :
    decode .atReset [0xE6, 0xB7] = .instruction (.movImm 0x6 0xB7) [] ∧
    decode .atReset [0x96, 0x93] = .instruction (.movWPcRel 0x6 0x93) [] ∧
    decode .atReset [0xD6, 0x93] = .instruction (.movLPcRel 0x6 0x93) [] ∧
    decode .atReset [0x66, 0xA3] = .instruction (.movReg 0xA 0x6) [] ∧
    decode .atReset [0x26, 0xA0] = .instruction (.movBStore 0xA 0x6) [] ∧
    decode .atReset [0x26, 0xA1] = .instruction (.movWStore 0xA 0x6) [] ∧
    decode .atReset [0x26, 0xA2] = .instruction (.movLStore 0xA 0x6) [] ∧
    decode .atReset [0x66, 0xA0] = .instruction (.movBLoad 0xA 0x6) [] ∧
    decode .atReset [0x66, 0xA1] = .instruction (.movWLoad 0xA 0x6) [] ∧
    decode .atReset [0x66, 0xA2] = .instruction (.movLLoad 0xA 0x6) [] ∧
    decode .atReset [0x26, 0xA4] = .instruction (.movBStorePreDec 0xA 0x6) [] ∧
    decode .atReset [0x26, 0xA5] = .instruction (.movWStorePreDec 0xA 0x6) [] := by
  decide +kernel

/-- Words from the encodings of R215 to R226 (spec/40_data_transfer.md). -/
theorem test_decode_data_transfer_2 :
    decode .atReset [0x26, 0xA6] = .instruction (.movLStorePreDec 0xA 0x6) [] ∧
    decode .atReset [0x66, 0xA4] = .instruction (.movBLoadPostInc 0xA 0x6) [] ∧
    decode .atReset [0x66, 0xA5] = .instruction (.movWLoadPostInc 0xA 0x6) [] ∧
    decode .atReset [0x66, 0xA6] = .instruction (.movLLoadPostInc 0xA 0x6) [] ∧
    decode .atReset [0x80, 0x6D] = .instruction (.movBStoreDisp4 0x6 0xD) [] ∧
    decode .atReset [0x81, 0x6D] = .instruction (.movWStoreDisp4 0x6 0xD) [] ∧
    decode .atReset [0x16, 0xAD] = .instruction (.movLStoreDisp4 0xA 0x6 0xD) [] ∧
    decode .atReset [0x84, 0xAD] = .instruction (.movBLoadDisp4 0xA 0xD) [] ∧
    decode .atReset [0x85, 0xAD] = .instruction (.movWLoadDisp4 0xA 0xD) [] ∧
    decode .atReset [0x56, 0xAD] = .instruction (.movLLoadDisp4 0xA 0x6 0xD) [] ∧
    decode .atReset [0x06, 0xA4] = .instruction (.movBStoreIdx 0xA 0x6) [] ∧
    decode .atReset [0x06, 0xA5] = .instruction (.movWStoreIdx 0xA 0x6) [] := by
  decide +kernel

/-- Words from the encodings of R227 to R238 (spec/40_data_transfer.md). -/
theorem test_decode_data_transfer_3 :
    decode .atReset [0x06, 0xA6] = .instruction (.movLStoreIdx 0xA 0x6) [] ∧
    decode .atReset [0x06, 0xAC] = .instruction (.movBLoadIdx 0xA 0x6) [] ∧
    decode .atReset [0x06, 0xAD] = .instruction (.movWLoadIdx 0xA 0x6) [] ∧
    decode .atReset [0x06, 0xAE] = .instruction (.movLLoadIdx 0xA 0x6) [] ∧
    decode .atReset [0xC0, 0x93] = .instruction (.movBStoreGbr 0x93) [] ∧
    decode .atReset [0xC1, 0x93] = .instruction (.movWStoreGbr 0x93) [] ∧
    decode .atReset [0xC2, 0x93] = .instruction (.movLStoreGbr 0x93) [] ∧
    decode .atReset [0xC4, 0x93] = .instruction (.movBLoadGbr 0x93) [] ∧
    decode .atReset [0xC5, 0x93] = .instruction (.movWLoadGbr 0x93) [] ∧
    decode .atReset [0xC6, 0x93] = .instruction (.movLLoadGbr 0x93) [] ∧
    decode .atReset [0x46, 0x8B] = .instruction (.movBStorePostInc 0x6) [] ∧
    decode .atReset [0x46, 0x9B] = .instruction (.movWStorePostInc 0x6) [] := by
  decide +kernel

/-- Words from the encodings of R239 to R260 (spec/40_data_transfer.md). -/
theorem test_decode_data_transfer_4 :
    decode .atReset [0x46, 0xAB] = .instruction (.movLStorePostInc 0x6) [] ∧
    decode .atReset [0x4A, 0xCB] = .instruction (.movBLoadPreDec 0xA) [] ∧
    decode .atReset [0x4A, 0xDB] = .instruction (.movWLoadPreDec 0xA) [] ∧
    decode .atReset [0x4A, 0xEB] = .instruction (.movLLoadPreDec 0xA) [] ∧
    decode .atReset [0x36, 0xA1, 0x09, 0xA5] = .instruction (.movBStoreDisp12 0xA 0x6 0x9A5) [] ∧
    decode .atReset [0x36, 0xA1, 0x19, 0xA5] = .instruction (.movWStoreDisp12 0xA 0x6 0x9A5) [] ∧
    decode .atReset [0x36, 0xA1, 0x29, 0xA5] = .instruction (.movLStoreDisp12 0xA 0x6 0x9A5) [] ∧
    decode .atReset [0x36, 0xA1, 0x49, 0xA5] = .instruction (.movBLoadDisp12 0xA 0x6 0x9A5) [] ∧
    decode .atReset [0x36, 0xA1, 0x59, 0xA5] = .instruction (.movWLoadDisp12 0xA 0x6 0x9A5) [] ∧
    decode .atReset [0x36, 0xA1, 0x69, 0xA5] = .instruction (.movLLoadDisp12 0xA 0x6 0x9A5) [] ∧
    decode .atReset [0x36, 0xA1, 0x89, 0xA5] = .instruction (.movuBLoadDisp12 0xA 0x6 0x9A5) [] ∧
    decode .atReset [0x36, 0xA1, 0x99, 0xA5] = .instruction (.movuWLoadDisp12 0xA 0x6 0x9A5) [] := by
  decide +kernel

/-- Words from the encodings of R249 to R263 (spec/40_data_transfer.md). -/
theorem test_decode_data_transfer_5 :
    decode .atReset [0xC7, 0x93] = .instruction (.mova 0x93) [] ∧
    decode .atReset [0x06, 0x80, 0xC3, 0xA5] = .instruction (.movi20 0x6 0x8C3A5) [] ∧
    decode .atReset [0x06, 0x81, 0xC3, 0xA5] = .instruction (.movi20s 0x6 0x8C3A5) [] ∧
    decode .atReset [0x4A, 0xF1] = .instruction (.movmlPush 0xA) [] ∧
    decode .atReset [0x46, 0xF5] = .instruction (.movmlPop 0x6) [] ∧
    decode .atReset [0x4A, 0xF0] = .instruction (.movmuPush 0xA) [] ∧
    decode .atReset [0x46, 0xF4] = .instruction (.movmuPop 0x6) [] ∧
    decode .atReset [0x06, 0x39] = .instruction (.movrt 0x6) [] ∧
    decode .atReset [0x06, 0x29] = .instruction (.movt 0x6) [] ∧
    decode .atReset [0x00, 0x68] = .instruction .nott [] ∧
    decode .atReset [0x06, 0x83] = .instruction (.pref 0x6) [] ∧
    decode .atReset [0x66, 0xA8] = .instruction (.swapB 0xA 0x6) [] := by
  decide +kernel

/-- Words from the encodings of R264 to R265 (spec/40_data_transfer.md). -/
theorem test_decode_data_transfer_6 :
    decode .atReset [0x66, 0xA9] = .instruction (.swapW 0xA 0x6) [] ∧
    decode .atReset [0x26, 0xAD] = .instruction (.xtrct 0xA 0x6) [] := by
  decide +kernel

/-- Words from the encodings of R301 to R307 (spec/41_arithmetic.md). -/
theorem test_decode_arithmetic_1 :
    decode .atReset [0x36, 0xAC] = .instruction (.add 0xA 0x6) [] ∧
    decode .atReset [0x76, 0xB7] = .instruction (.addImm 0x6 0xB7) [] ∧
    decode .atReset [0x36, 0xAE] = .instruction (.addc 0xA 0x6) [] ∧
    decode .atReset [0x36, 0xAF] = .instruction (.addv 0xA 0x6) [] ∧
    decode .atReset [0x66, 0xAB] = .instruction (.neg 0xA 0x6) [] ∧
    decode .atReset [0x66, 0xAA] = .instruction (.negc 0xA 0x6) [] ∧
    decode .atReset [0x36, 0xA8] = .instruction (.sub 0xA 0x6) [] ∧
    decode .atReset [0x36, 0xAA] = .instruction (.subc 0xA 0x6) [] ∧
    decode .atReset [0x36, 0xAB] = .instruction (.subv 0xA 0x6) [] ∧
    decode .atReset [0x88, 0xB7] = .instruction (.cmpEqImm 0xB7) [] ∧
    decode .atReset [0x36, 0xA0] = .instruction (.cmpEq 0xA 0x6) [] ∧
    decode .atReset [0x36, 0xA2] = .instruction (.cmpHs 0xA 0x6) [] := by
  decide +kernel

/-- Words from the encodings of R308 to R328 (spec/41_arithmetic.md). -/
theorem test_decode_arithmetic_2 :
    decode .atReset [0x36, 0xA3] = .instruction (.cmpGe 0xA 0x6) [] ∧
    decode .atReset [0x36, 0xA6] = .instruction (.cmpHi 0xA 0x6) [] ∧
    decode .atReset [0x36, 0xA7] = .instruction (.cmpGt 0xA 0x6) [] ∧
    decode .atReset [0x46, 0x15] = .instruction (.cmpPl 0x6) [] ∧
    decode .atReset [0x46, 0x11] = .instruction (.cmpPz 0x6) [] ∧
    decode .atReset [0x26, 0xAC] = .instruction (.cmpStr 0xA 0x6) [] ∧
    decode .atReset [0x46, 0x10] = .instruction (.dt 0x6) [] ∧
    decode .atReset [0x46, 0x91] = .instruction (.clipsB 0x6) [] ∧
    decode .atReset [0x46, 0x95] = .instruction (.clipsW 0x6) [] ∧
    decode .atReset [0x46, 0x81] = .instruction (.clipuB 0x6) [] ∧
    decode .atReset [0x46, 0x85] = .instruction (.clipuW 0x6) [] ∧
    decode .atReset [0x66, 0xAE] = .instruction (.extsB 0xA 0x6) [] := by
  decide +kernel

/-- Words from the encodings of R329 to R335 (spec/41_arithmetic.md). -/
theorem test_decode_arithmetic_3 :
    decode .atReset [0x66, 0xAF] = .instruction (.extsW 0xA 0x6) [] ∧
    decode .atReset [0x66, 0xAC] = .instruction (.extuB 0xA 0x6) [] ∧
    decode .atReset [0x66, 0xAD] = .instruction (.extuW 0xA 0x6) [] ∧
    decode .atReset [0x26, 0xA7] = .instruction (.div0s 0xA 0x6) [] ∧
    decode .atReset [0x00, 0x19] = .instruction .div0u [] ∧
    decode .atReset [0x36, 0xA4] = .instruction (.div1 0xA 0x6) [] ∧
    decode .atReset [0x46, 0x94] = .instruction (.divs 0x6) [] ∧
    decode .atReset [0x46, 0x84] = .instruction (.divu 0x6) [] ∧
    decode .atReset [0x36, 0xAD] = .instruction (.dmulsL 0xA 0x6) [] ∧
    decode .atReset [0x36, 0xA5] = .instruction (.dmuluL 0xA 0x6) [] ∧
    decode .atReset [0x06, 0xA7] = .instruction (.mulL 0xA 0x6) [] ∧
    decode .atReset [0x46, 0x80] = .instruction (.mulr 0x6) [] := by
  decide +kernel

/-- Words from the encodings of R330 to R331 (spec/41_arithmetic.md). -/
theorem test_decode_arithmetic_4 :
    decode .atReset [0x06, 0xAF] = .instruction (.macL 0xA 0x6) [] ∧
    decode .atReset [0x26, 0xAF] = .instruction (.mulsW 0xA 0x6) [] ∧
    decode .atReset [0x26, 0xAE] = .instruction (.muluW 0xA 0x6) [] ∧
    decode .atReset [0x46, 0xAF] = .instruction (.macW 0xA 0x6) [] := by
  decide +kernel

/-- Words from the encodings of R362 to R374 (spec/42_logic.md). -/
theorem test_decode_logic_1 :
    decode .atReset [0x26, 0xA9] = .instruction (.andReg 0xA 0x6) [] ∧
    decode .atReset [0xC9, 0xB7] = .instruction (.andImm 0xB7) [] ∧
    decode .atReset [0xCD, 0xB7] = .instruction (.andBGbr 0xB7) [] ∧
    decode .atReset [0x66, 0xA7] = .instruction (.notReg 0xA 0x6) [] ∧
    decode .atReset [0x26, 0xAB] = .instruction (.orReg 0xA 0x6) [] ∧
    decode .atReset [0xCB, 0xB7] = .instruction (.orImm 0xB7) [] ∧
    decode .atReset [0xCF, 0xB7] = .instruction (.orBGbr 0xB7) [] ∧
    decode .atReset [0x46, 0x1B] = .instruction (.tasB 0x6) [] ∧
    decode .atReset [0x26, 0xA8] = .instruction (.tstReg 0xA 0x6) [] ∧
    decode .atReset [0xC8, 0xB7] = .instruction (.tstImm 0xB7) [] ∧
    decode .atReset [0xCC, 0xB7] = .instruction (.tstBGbr 0xB7) [] ∧
    decode .atReset [0x26, 0xAA] = .instruction (.xorReg 0xA 0x6) [] := by
  decide +kernel

/-- Words from the encodings of R375 to R376 (spec/42_logic.md). -/
theorem test_decode_logic_2 :
    decode .atReset [0xCA, 0xB7] = .instruction (.xorImm 0xB7) [] ∧
    decode .atReset [0xCE, 0xB7] = .instruction (.xorBGbr 0xB7) [] := by
  decide +kernel

/-- Words from the encodings of R391 to R402 (spec/43_shift.md). -/
theorem test_decode_shift_1 :
    decode .atReset [0x46, 0x04] = .instruction (.rotl 0x6) [] ∧
    decode .atReset [0x46, 0x05] = .instruction (.rotr 0x6) [] ∧
    decode .atReset [0x46, 0x24] = .instruction (.rotcl 0x6) [] ∧
    decode .atReset [0x46, 0x25] = .instruction (.rotcr 0x6) [] ∧
    decode .atReset [0x46, 0x20] = .instruction (.shal 0x6) [] ∧
    decode .atReset [0x46, 0x21] = .instruction (.shar 0x6) [] ∧
    decode .atReset [0x46, 0x00] = .instruction (.shll 0x6) [] ∧
    decode .atReset [0x46, 0x01] = .instruction (.shlr 0x6) [] ∧
    decode .atReset [0x46, 0x08] = .instruction (.shll2 0x6) [] ∧
    decode .atReset [0x46, 0x18] = .instruction (.shll8 0x6) [] ∧
    decode .atReset [0x46, 0x28] = .instruction (.shll16 0x6) [] ∧
    decode .atReset [0x46, 0x09] = .instruction (.shlr2 0x6) [] := by
  decide +kernel

/-- Words from the encodings of R403 to R406 (spec/43_shift.md). -/
theorem test_decode_shift_2 :
    decode .atReset [0x46, 0x19] = .instruction (.shlr8 0x6) [] ∧
    decode .atReset [0x46, 0x29] = .instruction (.shlr16 0x6) [] ∧
    decode .atReset [0x46, 0xAC] = .instruction (.shad 0xA 0x6) [] ∧
    decode .atReset [0x46, 0xAD] = .instruction (.shld 0xA 0x6) [] := by
  decide +kernel

/-- Words from the encodings of R425 to R436 (spec/44_branch.md). -/
theorem test_decode_branch_1 :
    decode .atReset [0x8B, 0x93] = .instruction (.bf 0x93) [] ∧
    decode .atReset [0x8F, 0x93] = .instruction (.bfS 0x93) [] ∧
    decode .atReset [0x89, 0x93] = .instruction (.bt 0x93) [] ∧
    decode .atReset [0x8D, 0x93] = .instruction (.btS 0x93) [] ∧
    decode .atReset [0xA9, 0xA5] = .instruction (.bra 0x9A5) [] ∧
    decode .atReset [0x0A, 0x23] = .instruction (.braf 0xA) [] ∧
    decode .atReset [0x4A, 0x2B] = .instruction (.jmp 0xA) [] ∧
    decode .atReset [0xB9, 0xA5] = .instruction (.bsr 0x9A5) [] ∧
    decode .atReset [0x0A, 0x03] = .instruction (.bsrf 0xA) [] ∧
    decode .atReset [0x4A, 0x0B] = .instruction (.jsr 0xA) [] ∧
    decode .atReset [0x00, 0x0B] = .instruction .rts [] ∧
    decode .atReset [0x83, 0x93] = .instruction (.jsrNTbr 0x93) [] := by
  decide +kernel

/-- Words from the encodings of R437 to R439 (spec/44_branch.md). -/
theorem test_decode_branch_2 :
    decode .atReset [0x4A, 0x4B] = .instruction (.jsrN 0xA) [] ∧
    decode .atReset [0x00, 0x6B] = .instruction .rtsN [] ∧
    decode .atReset [0x0A, 0x7B] = .instruction (.rtvN 0xA) [] := by
  decide +kernel

/-- Words from the encodings of R451 to R462 (spec/45_system_control.md). -/
theorem test_decode_system_control_1 :
    decode .atReset [0x00, 0x08] = .instruction .clrt [] ∧
    decode .atReset [0x00, 0x18] = .instruction .sett [] ∧
    decode .atReset [0x00, 0x28] = .instruction .clrmac [] ∧
    decode .atReset [0x00, 0x09] = .instruction .nop [] ∧
    decode .atReset [0x4A, 0x0E] = .instruction (.ldcSr 0xA) [] ∧
    decode .atReset [0x4A, 0x1E] = .instruction (.ldcGbr 0xA) [] ∧
    decode .atReset [0x4A, 0x2E] = .instruction (.ldcVbr 0xA) [] ∧
    decode .atReset [0x4A, 0x4A] = .instruction (.ldcTbr 0xA) [] ∧
    decode .atReset [0x4A, 0x07] = .instruction (.ldcLSr 0xA) [] ∧
    decode .atReset [0x4A, 0x17] = .instruction (.ldcLGbr 0xA) [] ∧
    decode .atReset [0x4A, 0x27] = .instruction (.ldcLVbr 0xA) [] ∧
    decode .atReset [0x4A, 0x0A] = .instruction (.ldsMach 0xA) [] := by
  decide +kernel

/-- Words from the encodings of R463 to R476 (spec/45_system_control.md). -/
theorem test_decode_system_control_2 :
    decode .atReset [0x4A, 0x1A] = .instruction (.ldsMacl 0xA) [] ∧
    decode .atReset [0x4A, 0x2A] = .instruction (.ldsPr 0xA) [] ∧
    decode .atReset [0x4A, 0x06] = .instruction (.ldsLMach 0xA) [] ∧
    decode .atReset [0x4A, 0x16] = .instruction (.ldsLMacl 0xA) [] ∧
    decode .atReset [0x4A, 0x26] = .instruction (.ldsLPr 0xA) [] ∧
    decode .atReset [0x00, 0x2B] = .instruction .rte [] ∧
    decode .atReset [0x00, 0x1B] = .instruction .sleep [] ∧
    decode .atReset [0xC3, 0xB7] = .instruction (.trapa 0xB7) [] ∧
    decode .atReset [0x06, 0x02] = .instruction (.stcSr 0x6) [] ∧
    decode .atReset [0x06, 0x12] = .instruction (.stcGbr 0x6) [] ∧
    decode .atReset [0x06, 0x22] = .instruction (.stcVbr 0x6) [] ∧
    decode .atReset [0x06, 0x4A] = .instruction (.stcTbr 0x6) [] := by
  decide +kernel

/-- Words from the encodings of R477 to R487 (spec/45_system_control.md). -/
theorem test_decode_system_control_3 :
    decode .atReset [0x46, 0x03] = .instruction (.stcLSr 0x6) [] ∧
    decode .atReset [0x46, 0x13] = .instruction (.stcLGbr 0x6) [] ∧
    decode .atReset [0x46, 0x23] = .instruction (.stcLVbr 0x6) [] ∧
    decode .atReset [0x06, 0x0A] = .instruction (.stsMach 0x6) [] ∧
    decode .atReset [0x06, 0x1A] = .instruction (.stsMacl 0x6) [] ∧
    decode .atReset [0x06, 0x2A] = .instruction (.stsPr 0x6) [] ∧
    decode .atReset [0x46, 0x02] = .instruction (.stsLMach 0x6) [] ∧
    decode .atReset [0x46, 0x12] = .instruction (.stsLMacl 0x6) [] ∧
    decode .atReset [0x46, 0x22] = .instruction (.stsLPr 0x6) [] ∧
    decode .atReset [0x00, 0x5B] = .instruction .resbank [] ∧
    decode .atReset [0x4A, 0xE5] = .instruction (.ldbank 0xA) [] ∧
    decode .atReset [0x46, 0xE1] = .instruction (.stbank 0x6) [] := by
  decide +kernel

/-- Words from the encodings of R603 to R614 (spec/48_bit_manipulation.md). -/
theorem test_decode_bit_manipulation_1 :
    decode .atReset [0x36, 0x59, 0x49, 0xA5] = .instruction (.bandB 0x6 0x5 0x9A5) [] ∧
    decode .atReset [0x36, 0x59, 0xC9, 0xA5] = .instruction (.bandnotB 0x6 0x5 0x9A5) [] ∧
    decode .atReset [0x36, 0x59, 0x59, 0xA5] = .instruction (.borB 0x6 0x5 0x9A5) [] ∧
    decode .atReset [0x36, 0x59, 0xD9, 0xA5] = .instruction (.bornotB 0x6 0x5 0x9A5) [] ∧
    decode .atReset [0x36, 0x59, 0x69, 0xA5] = .instruction (.bxorB 0x6 0x5 0x9A5) [] ∧
    decode .atReset [0x36, 0x59, 0x39, 0xA5] = .instruction (.bldB 0x6 0x5 0x9A5) [] ∧
    decode .atReset [0x87, 0x6D] = .instruction (.bldReg 0x6 0x5) [] ∧
    decode .atReset [0x36, 0x59, 0xB9, 0xA5] = .instruction (.bldnotB 0x6 0x5 0x9A5) [] ∧
    decode .atReset [0x36, 0x59, 0x09, 0xA5] = .instruction (.bclrB 0x6 0x5 0x9A5) [] ∧
    decode .atReset [0x86, 0x65] = .instruction (.bclrReg 0x6 0x5) [] ∧
    decode .atReset [0x36, 0x59, 0x19, 0xA5] = .instruction (.bsetB 0x6 0x5 0x9A5) [] ∧
    decode .atReset [0x86, 0x6D] = .instruction (.bsetReg 0x6 0x5) [] := by
  decide +kernel

/-- Words from the encodings of R615 to R616 (spec/48_bit_manipulation.md). -/
theorem test_decode_bit_manipulation_2 :
    decode .atReset [0x36, 0x59, 0x29, 0xA5] = .instruction (.bstB 0x6 0x5 0x9A5) [] ∧
    decode .atReset [0x87, 0x65] = .instruction (.bstReg 0x6 0x5) [] := by
  decide +kernel

/-- Words from the encodings of R512 to R517 (spec/46_floating_point.md). -/
theorem test_decode_floating_point_1 :
    decode .atReset [0xF6, 0x5D] = .instruction (.fabsFR 0x6) [] ∧
    decode ⟨true, false⟩ [0xF6, 0x5D] = .instruction (.fabsDR 0x6) [] ∧
    decode .atReset [0xF6, 0xA0] = .instruction (.faddFR 0xA 0x6) [] ∧
    decode ⟨true, false⟩ [0xF6, 0xA0] = .instruction (.faddDR 0xA 0x6) [] ∧
    decode .atReset [0xF6, 0xA4] = .instruction (.fcmpEqFR 0xA 0x6) [] ∧
    decode ⟨true, false⟩ [0xF6, 0xA4] = .instruction (.fcmpEqDR 0xA 0x6) [] ∧
    decode .atReset [0xF6, 0xA5] = .instruction (.fcmpGtFR 0xA 0x6) [] ∧
    decode ⟨true, false⟩ [0xF6, 0xA5] = .instruction (.fcmpGtDR 0xA 0x6) [] ∧
    decode ⟨true, false⟩ [0xFA, 0xBD] = .instruction (.fcnvds 0xA) [] ∧
    decode ⟨true, false⟩ [0xF6, 0xAD] = .instruction (.fcnvsd 0x6) [] ∧
    decode .atReset [0xF6, 0xA3] = .instruction (.fdivFR 0xA 0x6) [] ∧
    decode ⟨true, false⟩ [0xF6, 0xA3] = .instruction (.fdivDR 0xA 0x6) [] := by
  decide +kernel

/-- Words from the encodings of R530 to R531 (spec/46_floating_point.md). -/
theorem test_decode_floating_point_2 :
    decode .atReset [0xF6, 0x2D] = .instruction (.floatFR 0x6) [] ∧
    decode ⟨true, false⟩ [0xF6, 0x2D] = .instruction (.floatDR 0x6) [] ∧
    decode .atReset [0xF6, 0xAE] = .instruction (.fmac 0xA 0x6) [] ∧
    decode .atReset [0xF6, 0xA2] = .instruction (.fmulFR 0xA 0x6) [] ∧
    decode ⟨true, false⟩ [0xF6, 0xA2] = .instruction (.fmulDR 0xA 0x6) [] ∧
    decode .atReset [0xF6, 0x4D] = .instruction (.fnegFR 0x6) [] ∧
    decode ⟨true, false⟩ [0xF6, 0x4D] = .instruction (.fnegDR 0x6) [] ∧
    decode .atReset [0xF6, 0x6D] = .instruction (.fsqrtFR 0x6) [] ∧
    decode ⟨true, false⟩ [0xF6, 0x6D] = .instruction (.fsqrtDR 0x6) [] ∧
    decode .atReset [0xF6, 0xA1] = .instruction (.fsubFR 0xA 0x6) [] ∧
    decode ⟨true, false⟩ [0xF6, 0xA1] = .instruction (.fsubDR 0xA 0x6) [] ∧
    decode .atReset [0xFA, 0x3D] = .instruction (.ftrcFR 0xA) [] := by
  decide +kernel

/-- Words from the encodings of R531 to R531 (spec/46_floating_point.md). -/
theorem test_decode_floating_point_3 :
    decode ⟨true, false⟩ [0xFA, 0x3D] = .instruction (.ftrcDR 0xA) [] := by
  decide +kernel

/-- Words from the encodings of R562 to R573 (spec/47_fpu_transfer.md). -/
theorem test_decode_fpu_transfer_1 :
    decode .atReset [0xF6, 0xAC] = .instruction (.fmovFR 0xA 0x6) [] ∧
    decode ⟨false, true⟩ [0xF6, 0xAC] = .instruction (.fmovDR 0xA 0x6) [] ∧
    decode .atReset [0xF6, 0xAA] = .instruction (.fmovSStore 0xA 0x6) [] ∧
    decode ⟨false, true⟩ [0xF6, 0xAA] = .instruction (.fmovDStore 0xA 0x6) [] ∧
    decode .atReset [0xF6, 0xA8] = .instruction (.fmovSLoad 0xA 0x6) [] ∧
    decode ⟨false, true⟩ [0xF6, 0xA8] = .instruction (.fmovDLoad 0xA 0x6) [] ∧
    decode .atReset [0xF6, 0xA9] = .instruction (.fmovSLoadPostInc 0xA 0x6) [] ∧
    decode ⟨false, true⟩ [0xF6, 0xA9] = .instruction (.fmovDLoadPostInc 0xA 0x6) [] ∧
    decode .atReset [0xF6, 0xAB] = .instruction (.fmovSStorePreDec 0xA 0x6) [] ∧
    decode ⟨false, true⟩ [0xF6, 0xAB] = .instruction (.fmovDStorePreDec 0xA 0x6) [] ∧
    decode .atReset [0xF6, 0xA6] = .instruction (.fmovSLoadIdx 0xA 0x6) [] ∧
    decode ⟨false, true⟩ [0xF6, 0xA6] = .instruction (.fmovDLoadIdx 0xA 0x6) [] := by
  decide +kernel

/-- Words from the encodings of R574 to R584 (spec/47_fpu_transfer.md). -/
theorem test_decode_fpu_transfer_2 :
    decode .atReset [0xF6, 0xA7] = .instruction (.fmovSStoreIdx 0xA 0x6) [] ∧
    decode ⟨false, true⟩ [0xF6, 0xA7] = .instruction (.fmovDStoreIdx 0xA 0x6) [] ∧
    decode .atReset [0x36, 0xA1, 0x39, 0xA5] = .instruction (.fmovSStoreDisp12 0xA 0x6 0x9A5) [] ∧
    decode ⟨false, true⟩ [0x36, 0xA1, 0x39, 0xA5] = .instruction (.fmovDStoreDisp12 0xA 0x6 0x9A5) [] ∧
    decode .atReset [0x36, 0xA1, 0x79, 0xA5] = .instruction (.fmovSLoadDisp12 0xA 0x6 0x9A5) [] ∧
    decode ⟨false, true⟩ [0x36, 0xA1, 0x79, 0xA5] = .instruction (.fmovDLoadDisp12 0xA 0x6 0x9A5) [] ∧
    decode .atReset [0xFA, 0x1D] = .instruction (.flds 0xA) [] ∧
    decode .atReset [0xF6, 0x0D] = .instruction (.fsts 0x6) [] ∧
    decode .atReset [0xF6, 0x8D] = .instruction (.fldi0 0x6) [] ∧
    decode .atReset [0xF6, 0x9D] = .instruction (.fldi1 0x6) [] ∧
    decode .atReset [0xF3, 0xFD] = .instruction .fschg [] ∧
    decode .atReset [0x4A, 0x5A] = .instruction (.ldsFpul 0xA) [] := by
  decide +kernel

/-- Words from the encodings of R585 to R591 (spec/47_fpu_transfer.md). -/
theorem test_decode_fpu_transfer_3 :
    decode .atReset [0x4A, 0x56] = .instruction (.ldsLFpul 0xA) [] ∧
    decode .atReset [0x4A, 0x6A] = .instruction (.ldsFpscr 0xA) [] ∧
    decode .atReset [0x4A, 0x66] = .instruction (.ldsLFpscr 0xA) [] ∧
    decode .atReset [0x06, 0x5A] = .instruction (.stsFpul 0x6) [] ∧
    decode .atReset [0x06, 0x6A] = .instruction (.stsFpscr 0x6) [] ∧
    decode .atReset [0x46, 0x52] = .instruction (.stsLFpul 0x6) [] ∧
    decode .atReset [0x46, 0x62] = .instruction (.stsLFpscr 0x6) [] := by
  decide +kernel

/-! ### One step on small states -/

/-- `BAND.B #0x5,@(2,R0)` (spec/95_test_vectors.md part 1). -/
theorem test_band_b :
    runs [0x3059, 0x4002] [reg 0 0x2000, bit 0 true, byte 0x2002 0xDF]
      (fun t => !t.t && t.peek 0x2002 == 0xDF) = true := by
  decide +kernel

/-- `BANDNOT.B #0x5,@(2,R0)` (spec/95_test_vectors.md part 1). -/
theorem test_bandnot_b :
    runs [0x3059, 0xC002] [reg 0 0x2000, bit 0 true, byte 0x2002 0x20]
      (fun t => !t.t) = true := by
  decide +kernel

/-- `BCLR.B #0x5,@(2,R0)` (spec/95_test_vectors.md part 1). -/
theorem test_bclr_b :
    runs [0x3059, 0x0002] [reg 0 0x2000, byte 0x2002 0xFF]
      (fun t => t.peek 0x2002 == 0xDF) = true := by
  decide +kernel

/-- `BCLR #0x4,R0` (spec/95_test_vectors.md part 1). -/
theorem test_bclr :
    runs [0x8604] [reg 0 0xFFFFFFFF]
      (fun t => t.reg 0 == 0xFFFFFFEF) = true := by
  decide +kernel

/-- `BLD.B #0x5,@(2,R0)` (spec/95_test_vectors.md part 1). -/
theorem test_bld_b :
    runs [0x3059, 0x3002] [reg 0 0x2000, bit 0 false, byte 0x2002 0x20]
      (fun t => t.t) = true := by
  decide +kernel

/-- `BLD #0x4,R0` (spec/95_test_vectors.md part 1). -/
theorem test_bld :
    runs [0x870C] [reg 0 0xEF, bit 0 true]
      (fun t => !t.t) = true := by
  decide +kernel

/-- `BLDNOT.B #0x5,@(2,R0)` (spec/95_test_vectors.md part 1). -/
theorem test_bldnot_b :
    runs [0x3059, 0xB002] [reg 0 0x2000, bit 0 true, byte 0x2002 0x20]
      (fun t => !t.t) = true := by
  decide +kernel

/-- `BORNOT.B #0x5,@(2,R0)` (spec/95_test_vectors.md part 1). -/
theorem test_bornot_b :
    runs [0x3059, 0xD002] [reg 0 0x2000, bit 0 false, byte 0x2002 0xDF]
      (fun t => t.t) = true := by
  decide +kernel

/-- `BSET.B #0x5,@(2,R0)` (spec/95_test_vectors.md part 1). -/
theorem test_bset_b :
    runs [0x3059, 0x1002] [reg 0 0x2000, byte 0x2002 0x00]
      (fun t => t.peek 0x2002 == 0x20) = true := by
  decide +kernel

/-- `BSET #0x4,R0` (spec/95_test_vectors.md part 1). -/
theorem test_bset :
    runs [0x860C] [reg 0 0]
      (fun t => t.reg 0 == 0x10) = true := by
  decide +kernel

/-- `BST.B #0x4,@(2,R0)` (spec/95_test_vectors.md part 1). -/
theorem test_bst_b :
    runs [0x3049, 0x2002] [reg 0 0x2000, bit 0 false, byte 0x2002 0xFF]
      (fun t => !t.t && t.peek 0x2002 == 0xEF) = true := by
  decide +kernel

/-- `BST #0x4,R0` (spec/95_test_vectors.md part 1). -/
theorem test_bst :
    runs [0x8704] [reg 0 0, bit 0 true]
      (fun t => t.reg 0 == 0x10 && t.t) = true := by
  decide +kernel

/-- `BXOR.B #0x5,@(2,R0)` (spec/95_test_vectors.md part 1). -/
theorem test_bxor_b :
    runs [0x3059, 0x6002] [reg 0 0x2000, bit 0 true, byte 0x2002 0xFF]
      (fun t => !t.t) = true := by
  decide +kernel

/-- `CLIPS.B R1` (spec/95_test_vectors.md part 1). -/
theorem test_clips_b :
    runs [0x4191] [reg 1 0x80, bit 13 false]
      (fun t => t.reg 1 == 0x7F && t.cs) = true := by
  decide +kernel

/-- `CLIPS.W R1` (spec/95_test_vectors.md part 1). -/
theorem test_clips_w :
    runs [0x4195] [reg 1 0xFFFF7000, bit 13 false]
      (fun t => t.reg 1 == 0xFFFF8000 && t.cs) = true := by
  decide +kernel

/-- `CLIPU.B R1` (spec/95_test_vectors.md part 1). -/
theorem test_clipu_b :
    runs [0x4181] [reg 1 0x100, bit 13 false]
      (fun t => t.reg 1 == 0xFF && t.cs) = true := by
  decide +kernel

/-- `CLIPU.W R1` (spec/95_test_vectors.md part 1). -/
theorem test_clipu_w :
    runs [0x4185] [reg 1 0x10000, bit 13 false]
      (fun t => t.reg 1 == 0xFFFF && t.cs) = true := by
  decide +kernel

/-- `FMOV.S FR0,@(2,R2)` (spec/95_test_vectors.md part 1). -/
theorem test_fmov_s_disp12 :
    runs [0x3201, 0x3002] [freg 0 0x12345670, reg 2 0x2000]
      (fun t => t.peek32 0x2008 == 0x12345670) = true := by
  decide +kernel

/-- `LDC R0,TBR` (spec/95_test_vectors.md part 1). -/
theorem test_ldc_tbr :
    runs [0x404A] [reg 0 0x12345678, putTbr 0]
      (fun t => t.tbr == 0x12345678) = true := by
  decide +kernel

/-- `MOV.B R0,@(1,R1)` (spec/95_test_vectors.md part 1). -/
theorem test_mov_b_disp12 :
    runs [0x3101, 0x0001] [reg 0 0xFFFF7F80, reg 1 0x2000]
      (fun t => t.peek 0x2001 == 0x80) = true := by
  decide +kernel

/-- `MOV.L @(2,R0),R1` (spec/95_test_vectors.md part 1). -/
theorem test_mov_l_load_disp12 :
    runs [0x3101, 0x6002] [reg 0 0x2000, long 0x2008 0x12345670]
      (fun t => t.reg 1 == 0x12345670) = true := by
  decide +kernel

/-- `MOV.B R0,@R1+` (spec/95_test_vectors.md part 1). -/
theorem test_mov_b_post_inc :
    runs [0x418B] [reg 0 0xAAAAAAAA, reg 1 0xFFFF7F80]
      (fun t => t.peek 0xFFFF7F80 == 0xAA && t.reg 1 == 0xFFFF7F81) = true := by
  decide +kernel

/-- `MOVU.B @(2,R0),R1` (spec/95_test_vectors.md part 1). -/
theorem test_movu_b :
    runs [0x3101, 0x8002] [reg 0 0x2000, byte 0x2002 0xFF]
      (fun t => t.reg 1 == 0xFF) = true := by
  decide +kernel

/-- `MULR R0,R1` (spec/95_test_vectors.md part 1). -/
theorem test_mulr :
    runs [0x4180] [reg 0 0xFFFFFFFE, reg 1 0x5555]
      (fun t => t.reg 1 == 0xFFFF5556) = true := by
  decide +kernel

/-- `SHAD R1,R2` (spec/95_test_vectors.md part 1). -/
theorem test_shad_right :
    runs [0x421C] [reg 1 0xFFFFFFEC, reg 2 0x80180000]
      (fun t => t.reg 2 == 0xFFFFF801) = true := by
  decide +kernel

/-- `SHAD R3,R4` (spec/95_test_vectors.md part 1). -/
theorem test_shad_left :
    runs [0x443C] [reg 3 0x14, reg 4 0xFFFFF801]
      (fun t => t.reg 4 == 0x80100000) = true := by
  decide +kernel

/-- `SHLD R1,R2` (spec/95_test_vectors.md part 1). -/
theorem test_shld_right :
    runs [0x421D] [reg 1 0xFFFFFFEC, reg 2 0x80180000]
      (fun t => t.reg 2 == 0x801) = true := by
  decide +kernel

/-- `STC TBR,R0` (spec/95_test_vectors.md part 1). -/
theorem test_stc_tbr :
    runs [0x004A] [reg 0 0x12345678, putTbr 0]
      (fun t => t.reg 0 == 0) = true := by
  decide +kernel

/-- `MOV #0x80,R1` (spec/95_test_vectors.md part 2). -/
theorem test_mov_imm :
    runs [0xE180] []
      (fun t => t.reg 1 == 0xFFFFFF80) = true := by
  decide +kernel

/-- `MOV.W @(d=4,PC),R2` (spec/95_test_vectors.md part 2). -/
theorem test_mov_w_pc :
    runs [0x9204] [word 0x100C 0x9ABC]
      (fun t => t.reg 2 == 0xFFFF9ABC) = true := by
  decide +kernel

/-- `MOV.L @(d=1,PC),R3` (spec/95_test_vectors.md part 2). -/
theorem test_mov_l_pc :
    runs [0xD301] [long 0x1008 0x12345678]
      (fun t => t.reg 3 == 0x12345678) = true := by
  decide +kernel

/-- `MOVA @(d=1,PC),R0` (spec/95_test_vectors.md part 2). -/
theorem test_mova :
    runs [0xC701] []
      (fun t => t.reg 0 == 0x1008) = true := by
  decide +kernel

/-- `MOV.W R0,@R1` (spec/95_test_vectors.md part 2). -/
theorem test_mov_w_store :
    runs [0x2101] [long 0x2000 0xAAAAAAAA, reg 0 0x12345678, reg 1 0x2002]
      (fun t => t.peek32 0x2000 == 0xAAAA5678) = true := by
  decide +kernel

/-- `MOV.B R1,@-R1` (spec/95_test_vectors.md part 2). -/
theorem test_mov_b_pre_dec :
    runs [0x2114] [long 0x2000 0x00000000, reg 1 0x2004]
      (fun t => t.peek32 0x2000 == 0x00000004 && t.reg 1 == 0x2003) = true := by
  decide +kernel

/-- `MOV.L @R1+,R1` (spec/95_test_vectors.md part 2). -/
theorem test_mov_l_post_inc_same :
    runs [0x6116] [long 0x2000 0xCAFEF00D, reg 1 0x2000]
      (fun t => t.reg 1 == 0xCAFEF00D) = true := by
  decide +kernel

/-- `MOV.L @R1+,R2` (spec/95_test_vectors.md part 2). -/
theorem test_mov_l_post_inc :
    runs [0x6216] [long 0x2000 0xCAFEF00D, reg 1 0x2000]
      (fun t => t.reg 1 == 0x2004 && t.reg 2 == 0xCAFEF00D) = true := by
  decide +kernel

/-- `MOV.W R0,@(15,R1)` (spec/95_test_vectors.md part 2). -/
theorem test_mov_w_disp4 :
    runs [0x811F] [reg 0 0x1234ABCD, reg 1 0x2000]
      (fun t => t.peek16 0x201E == 0xABCD) = true := by
  decide +kernel

/-- `MOV.B @(15,R1),R0` (spec/95_test_vectors.md part 2). -/
theorem test_mov_b_load_disp4 :
    runs [0x841F] [byte 0x200F 0xFE, reg 1 0x2000]
      (fun t => t.reg 0 == 0xFFFFFFFE) = true := by
  decide +kernel

/-- `MOV.L @(R0,R1),R2` (spec/95_test_vectors.md part 2). -/
theorem test_mov_l_indexed :
    runs [0x021E] [long 0x2000 0x11223344, reg 0 0xFFFFFFFC, reg 1 0x2004]
      (fun t => t.reg 2 == 0x11223344) = true := by
  decide +kernel

/-- `MOV.W R0,@(255,GBR)` (spec/95_test_vectors.md part 2). -/
theorem test_mov_w_gbr :
    runs [0xC1FF] [putGbr 0x2000, reg 0 0xBEEF]
      (fun t => t.peek16 0x21FE == 0xBEEF) = true := by
  decide +kernel

/-- `MOV.W R0,@R0+` (spec/95_test_vectors.md part 2). -/
theorem test_mov_w_r0_post_inc :
    runs [0x409B] [reg 0 0x2000]
      (fun t => t.peek16 0x2000 == 0x2000 && t.reg 0 == 0x2002) = true := by
  decide +kernel

/-- `MOV.L @-R0,R0` (spec/95_test_vectors.md part 2). -/
theorem test_mov_l_pre_dec_r0 :
    runs [0x40EB] [long 0x2000 0x0BADCAFE, reg 0 0x2004]
      (fun t => t.reg 0 == 0xBADCAFE) = true := by
  decide +kernel

/-- `MOVU.W @(1,R0),R1` (spec/95_test_vectors.md part 2). -/
theorem test_movu_w :
    runs [0x3101, 0x9001] [word 0x2002 0x8001, reg 0 0x2000]
      (fun t => t.reg 1 == 0x8001) = true := by
  decide +kernel

/-- `MOVI20 #0x80000,R0` (spec/95_test_vectors.md part 2). -/
theorem test_movi20 :
    runs [0x0080, 0x0000] []
      (fun t => t.reg 0 == 0xFFF80000 && t.pc == 0x1004) = true := by
  decide +kernel

/-- `MOVI20S #0x80000,R0` (spec/95_test_vectors.md part 2). -/
theorem test_movi20s :
    runs [0x0081, 0x0000] []
      (fun t => t.reg 0 == 0xF8000000) = true := by
  decide +kernel

/-- `SWAP.B R0,R0` (spec/95_test_vectors.md part 2). -/
theorem test_swap_b :
    runs [0x6008] [reg 0 0x12345678]
      (fun t => t.reg 0 == 0x12347856) = true := by
  decide +kernel

/-- `XTRCT R1,R1` (spec/95_test_vectors.md part 2). -/
theorem test_xtrct_same :
    runs [0x211D] [reg 1 0x89ABCDEF]
      (fun t => t.reg 1 == 0xCDEF89AB) = true := by
  decide +kernel

/-- `MOVT R3` (spec/95_test_vectors.md part 2). -/
theorem test_movt :
    runs [0x0329] [reg 3 0xFFFFFFFF, bit 0 true]
      (fun t => t.reg 3 == 1) = true := by
  decide +kernel

/-- `MOVRT R3` (spec/95_test_vectors.md part 2). -/
theorem test_movrt :
    runs [0x0339] [reg 3 0xFFFFFFFF, bit 0 true]
      (fun t => t.reg 3 == 0) = true := by
  decide +kernel

/-- `MOVML.L R15,@-R15` (spec/95_test_vectors.md part 2). -/
theorem test_movml_push_r15 :
    runs [0x4FF1] [reg 15 0x3000, putPr 0x77, reg 14 0xEE, reg 0 0x10]
      (fun t => t.peek32 0x2FFC == 0x00000077 && t.peek32 0x2FF8 == 0x000000EE && t.peek32 0x2FC0 == 0x00000010 &&
        t.reg 15 == 0x2FC0) = true := by
  decide +kernel

/-- `ADD #0x80,R2` (spec/95_test_vectors.md part 2). -/
theorem test_add_imm :
    runs [0x7280] [reg 2 0]
      (fun t => t.reg 2 == 0xFFFFFF80) = true := by
  decide +kernel

/-- `ADDC R0,R1` (spec/95_test_vectors.md part 2). -/
theorem test_addc :
    runs [0x310E] [reg 0 0xFFFFFFFF, reg 1 0, bit 0 true]
      (fun t => t.reg 1 == 0 && t.t) = true := by
  decide +kernel

/-- `ADDV R0,R1` (spec/95_test_vectors.md part 2). -/
theorem test_addv :
    runs [0x310F] [reg 0 0x80000000, reg 1 0x80000000]
      (fun t => t.reg 1 == 0 && t.t) = true := by
  decide +kernel

/-- `SUBC R1,R1` (spec/95_test_vectors.md part 2). -/
theorem test_subc_same :
    runs [0x311A] [reg 1 5, bit 0 true]
      (fun t => t.reg 1 == 0xFFFFFFFF && t.t) = true := by
  decide +kernel

/-- `SUBV R0,R1` (spec/95_test_vectors.md part 2). -/
theorem test_subv :
    runs [0x310B] [reg 0 1, reg 1 0x80000000]
      (fun t => t.reg 1 == 0x7FFFFFFF && t.t) = true := by
  decide +kernel

/-- `NEGC R0,R1` (spec/95_test_vectors.md part 2). -/
theorem test_negc :
    runs [0x610A] [reg 0 0x80000000, bit 0 true]
      (fun t => t.reg 1 == 0x7FFFFFFF && t.t) = true := by
  decide +kernel

/-- `CMP/EQ #0xFF,R0` (spec/95_test_vectors.md part 2). -/
theorem test_cmp_eq_imm :
    runs [0x88FF] [reg 0 0xFFFFFFFF]
      (fun t => t.t) = true := by
  decide +kernel

/-- `CMP/GE R0,R1` (spec/95_test_vectors.md part 2). -/
theorem test_cmp_ge :
    runs [0x3103] [reg 0 0x80000000, reg 1 0x7FFFFFFF]
      (fun t => t.t) = true := by
  decide +kernel

/-- `CMP/HS R0,R1` (spec/95_test_vectors.md part 2). -/
theorem test_cmp_hs :
    runs [0x3102] [reg 0 5, reg 1 5]
      (fun t => t.t) = true := by
  decide +kernel

/-- `CMP/PZ R1` (spec/95_test_vectors.md part 2). -/
theorem test_cmp_pz :
    runs [0x4111] [reg 1 0]
      (fun t => t.t) = true := by
  decide +kernel

/-- `CMP/STR R2,R3` (spec/95_test_vectors.md part 2). -/
theorem test_cmp_str :
    runs [0x232C] [reg 2 0x41424344, reg 3 0x58594358]
      (fun t => t.t) = true := by
  decide +kernel

/-- `DT R5` (spec/95_test_vectors.md part 2). -/
theorem test_dt :
    runs [0x4510] [reg 5 1]
      (fun t => t.reg 5 == 0 && t.t) = true := by
  decide +kernel

/-- `DIV0S R0,R1` (spec/95_test_vectors.md part 2). -/
theorem test_div0s :
    runs [0x2107] [reg 0 0x80000000, reg 1 1]
      (fun t => !t.q && t.m && t.t) = true := by
  decide +kernel

/-- `DIV1 R0,R1` (spec/95_test_vectors.md part 2). -/
theorem test_div1 :
    runs [0x3104] [reg 0 0x30000, reg 1 7, bit 8 false, bit 9 false, bit 0 false]
      (fun t => t.reg 1 == 0xFFFD000E && t.q && !t.t) = true := by
  decide +kernel

/-- `DIVS R0,R1` (spec/95_test_vectors.md part 2). -/
theorem test_divs :
    runs [0x4194] [reg 1 7, reg 0 0xFFFFFFFE]
      (fun t => t.reg 1 == 0xFFFFFFFD) = true := by
  decide +kernel

/-- `DIVU R0,R1` (spec/95_test_vectors.md part 2). -/
theorem test_divu :
    runs [0x4184] [reg 1 0xFFFFFFFF, reg 0 3]
      (fun t => t.reg 1 == 0x55555555) = true := by
  decide +kernel

/-- `DMULS.L R0,R1` (spec/95_test_vectors.md part 2). -/
theorem test_dmuls :
    runs [0x310D] [reg 0 0x80000000, reg 1 0x80000000]
      (fun t => t.mach == 0x40000000 && t.macl == 0) = true := by
  decide +kernel

/-- `DMULU.L R0,R1` (spec/95_test_vectors.md part 2). -/
theorem test_dmulu :
    runs [0x3105] [reg 0 0xFFFFFFFF, reg 1 0xFFFFFFFF]
      (fun t => t.mach == 0xFFFFFFFE && t.macl == 1) = true := by
  decide +kernel

/-- `MUL.L R0,R1` (spec/95_test_vectors.md part 2). -/
theorem test_mul_l :
    runs [0x0107] [reg 0 0x10000, reg 1 0x10000, putMach 0x55]
      (fun t => t.macl == 0 && t.mach == 0x55) = true := by
  decide +kernel

/-- `MULS.W R0,R1` (spec/95_test_vectors.md part 2). -/
theorem test_muls_w :
    runs [0x210F] [reg 0 0x12348000, reg 1 0xABCD8000]
      (fun t => t.macl == 0x40000000) = true := by
  decide +kernel

/-- `MULU.W R0,R1` (spec/95_test_vectors.md part 2). -/
theorem test_mulu_w :
    runs [0x210E] [reg 0 0x1234FFFF, reg 1 0xABCDFFFF]
      (fun t => t.macl == 0xFFFE0001) = true := by
  decide +kernel

/-- `MAC.W @R0+,@R1+` (spec/95_test_vectors.md part 2). -/
theorem test_mac_w_saturates :
    runs [0x410F] [word 0x2000 0x0002, word 0x2002 0x0003, putMach 0, putMacl 0x7FFFFFFF, reg 0 0x2000, reg 1 0x2002,
      bit 1 true]
      (fun t => t.macl == 0x7FFFFFFF && t.mach == 1 && t.reg 0 == 0x2002 && t.reg 1 == 0x2004) = true := by
  decide +kernel

/-- `MAC.W @R0+,@R0+` (spec/95_test_vectors.md part 2). -/
theorem test_mac_w_same :
    runs [0x400F] [word 0x2000 0x0003, word 0x2002 0x0005, reg 0 0x2000, bit 1 false]
      (fun t => t.macl == 0xF && t.reg 0 == 0x2004) = true := by
  decide +kernel

/-- `MAC.L @R0+,@R1+` (spec/95_test_vectors.md part 2). -/
theorem test_mac_l_wraps :
    runs [0x010F] [putMach 0x7FFFFFFF, putMacl 0xFFFFFFFF, long 0x2000 0x00000001, long 0x2004 0x00000001, reg 0
      0x2000, reg 1 0x2004, bit 1 false]
      (fun t => t.mach == 0x80000000 && t.macl == 0 && t.reg 0 == 0x2004 && t.reg 1 == 0x2008) = true := by
  decide +kernel

/-- `TST R0,R1` (spec/95_test_vectors.md part 2). -/
theorem test_tst :
    runs [0x2108] [reg 0 0xF0F0F0F0, reg 1 0xF0F0F0F]
      (fun t => t.t) = true := by
  decide +kernel

/-- `AND.B #0x0F,@(R0,GBR)` (spec/95_test_vectors.md part 2). -/
theorem test_and_b :
    runs [0xCD0F] [long 0x2000 0x11223344, reg 0 3, putGbr 0x2000]
      (fun t => t.peek32 0x2000 == 0x11223304) = true := by
  decide +kernel

/-- `OR.B #0x0F,@(R0,GBR)` (spec/95_test_vectors.md part 2). -/
theorem test_or_b :
    runs [0xCF0F] [long 0x2000 0x11223344, reg 0 0xFFFFFFFF, putGbr 0x2001]
      (fun t => t.peek32 0x2000 == 0x1F223344) = true := by
  decide +kernel

/-- `XOR.B #0xFF,@(R0,GBR)` (spec/95_test_vectors.md part 2). -/
theorem test_xor_b :
    runs [0xCEFF] [long 0x2000 0x11223344, reg 0 1, putGbr 0x2000]
      (fun t => t.peek32 0x2000 == 0x11DD3344) = true := by
  decide +kernel

/-- `TST.B #0xDD,@(R0,GBR)` (spec/95_test_vectors.md part 2). -/
theorem test_tst_b :
    runs [0xCCDD] [long 0x2000 0x11223344, reg 0 1, putGbr 0x2000]
      (fun t => t.t) = true := by
  decide +kernel

/-- `TAS.B @R7` (spec/95_test_vectors.md part 2). -/
theorem test_tas_b :
    runs [0x471B] [byte 0x2000 0x00, reg 7 0x2000]
      (fun t => t.t) = true := by
  decide +kernel

/-- `ROTL R0` (spec/95_test_vectors.md part 2). -/
theorem test_rotl :
    runs [0x4004] [reg 0 0x40000000, bit 0 true]
      (fun t => t.reg 0 == 0x80000000 && !t.t) = true := by
  decide +kernel

/-- `ROTR R0` (spec/95_test_vectors.md part 2). -/
theorem test_rotr :
    runs [0x4005] [reg 0 2, bit 0 true]
      (fun t => t.reg 0 == 1 && !t.t) = true := by
  decide +kernel

/-- `ROTCL R0` (spec/95_test_vectors.md part 2). -/
theorem test_rotcl :
    runs [0x4024] [reg 0 0, bit 0 true]
      (fun t => t.reg 0 == 1 && !t.t) = true := by
  decide +kernel

/-- `ROTCR R0` (spec/95_test_vectors.md part 2). -/
theorem test_rotcr :
    runs [0x4025] [reg 0 0, bit 0 true]
      (fun t => t.reg 0 == 0x80000000 && !t.t) = true := by
  decide +kernel

/-- `SHAR R0` (spec/95_test_vectors.md part 2). -/
theorem test_shar :
    runs [0x4021] [reg 0 0xFFFFFFFF, bit 0 false]
      (fun t => t.reg 0 == 0xFFFFFFFF && t.t) = true := by
  decide +kernel

/-- `SHLR R0` (spec/95_test_vectors.md part 2). -/
theorem test_shlr :
    runs [0x4001] [reg 0 0xFFFFFFFF, bit 0 false]
      (fun t => t.reg 0 == 0x7FFFFFFF && t.t) = true := by
  decide +kernel

/-- `SHAL R0` (spec/95_test_vectors.md part 2). -/
theorem test_shal :
    runs [0x4020] [reg 0 0x40000000, bit 0 true]
      (fun t => t.reg 0 == 0x80000000 && !t.t) = true := by
  decide +kernel

/-- `SHLL2 R0` (spec/95_test_vectors.md part 1). -/
theorem test_shll2 :
    runs [0x4008] [reg 0 0x12345678]
      (fun t => t.reg 0 == 0x48D159E0) = true := by
  decide +kernel

/-- `SHLR8 R0` (spec/95_test_vectors.md part 1). -/
theorem test_shlr8 :
    runs [0x4019] [reg 0 0x12345678]
      (fun t => t.reg 0 == 0x123456) = true := by
  decide +kernel

/-- `SHLR16 R0` (spec/95_test_vectors.md part 1). -/
theorem test_shlr16 :
    runs [0x4029] [reg 0 0x12345678]
      (fun t => t.reg 0 == 0x1234) = true := by
  decide +kernel

/-- `SHAD R1,R2` (spec/95_test_vectors.md part 2). -/
theorem test_shad_minus_1 :
    runs [0x421C] [reg 1 0xFFFFFFFF, reg 2 0x80000000]
      (fun t => t.reg 2 == 0xC0000000) = true := by
  decide +kernel

/-- `SHLD R1,R2` (spec/95_test_vectors.md part 2). -/
theorem test_shld_minus_32 :
    runs [0x421D] [reg 1 0xFFFFFFE0, reg 2 0x80000000]
      (fun t => t.reg 2 == 0) = true := by
  decide +kernel

/-- `BF d = -4` (spec/95_test_vectors.md part 2). -/
theorem test_bf_taken :
    runs [0x8BFC] [bit 0 false]
      (fun t => t.pc == 0xFFC) = true := by
  decide +kernel

/-- `BT d = 127` (spec/95_test_vectors.md part 2). -/
theorem test_bt_taken :
    runs [0x897F] [bit 0 true]
      (fun t => t.pc == 0x1102) = true := by
  decide +kernel

/-- `BRA d = -2048` (spec/95_test_vectors.md part 2). -/
theorem test_bra :
    runs [0xA800] []
      (fun t => t.slot == .taken 4) = true := by
  decide +kernel

/-- `BRAF R1` (spec/95_test_vectors.md part 2). -/
theorem test_braf :
    runs [0x0123] [reg 1 0xFFFFFFFC]
      (fun t => t.slot == .taken 0x1000) = true := by
  decide +kernel

/-- `BSR d = 6` (spec/95_test_vectors.md part 2). -/
theorem test_bsr :
    runs [0xB006] [putPr 5]
      (fun t => t.pr == 0x1004 && t.slot == .taken 0x1010) = true := by
  decide +kernel

/-- `BSRF R1` (spec/95_test_vectors.md part 2). -/
theorem test_bsrf :
    runs [0x0103] [reg 1 0x100]
      (fun t => t.pr == 0x1004 && t.slot == .taken 0x1104) = true := by
  decide +kernel

/-- `JSR @R1` (spec/95_test_vectors.md part 2). -/
theorem test_jsr :
    runs [0x410B] [reg 1 0x2000]
      (fun t => t.pr == 0x1004 && t.slot == .taken 0x2000) = true := by
  decide +kernel

/-- `RTS` (spec/95_test_vectors.md part 2). -/
theorem test_rts :
    runs [0x000B] [putPr 0x2000]
      (fun t => t.slot == .taken 0x2000) = true := by
  decide +kernel

/-- `JSR/N @R1` (spec/95_test_vectors.md part 2). -/
theorem test_jsr_n :
    runs [0x414B] [reg 1 0x2000]
      (fun t => t.pc == 0x2000 && t.pr == 0x1002) = true := by
  decide +kernel

/-- `JSR/N @@(255,TBR)` (spec/95_test_vectors.md part 2). -/
theorem test_jsr_n_tbr :
    runs [0x83FF] [long 0x23FC 0x00005000, putTbr 0x2000]
      (fun t => t.pc == 0x5000 && t.pr == 0x1002) = true := by
  decide +kernel

/-- `RTS/N` (spec/95_test_vectors.md part 2). -/
theorem test_rts_n :
    runs [0x006B] [putPr 0x2000]
      (fun t => t.pc == 0x2000) = true := by
  decide +kernel

/-- `RTV/N R3` (spec/95_test_vectors.md part 2). -/
theorem test_rtv_n :
    runs [0x037B] [putPr 0x2000, reg 3 0x33]
      (fun t => t.pc == 0x2000 && t.reg 0 == 0x33) = true := by
  decide +kernel

/-- `LDC R1,SR` (spec/95_test_vectors.md part 2). -/
theorem test_ldc_sr :
    runs [0x410E] [reg 1 0xFFFFFFFF, putSr 0]
      (fun t => t.sr == 0x63F3) = true := by
  decide +kernel

/-- `LDC.L @R1+,SR` (spec/95_test_vectors.md part 2). -/
theorem test_ldc_l_sr :
    runs [0x4107] [long 0x2000 0xFFFFFFFF, reg 1 0x2000, putSr 0]
      (fun t => t.sr == 0x63F3 && t.reg 1 == 0x2004) = true := by
  decide +kernel

/-- `LDC R1,VBR` (spec/95_test_vectors.md part 2). -/
theorem test_ldc_vbr :
    runs [0x412E] [reg 1 0xFFFFFFFF]
      (fun t => t.vbr == 0xFFFFFFFF) = true := by
  decide +kernel

/-- `STC.L SR,@-R15` (spec/95_test_vectors.md part 2). -/
theorem test_stc_l_sr :
    runs [0x4F03] [reg 15 0x2004, putSr 0x3F1]
      (fun t => t.peek32 0x2000 == 0x000003F1 && t.reg 15 == 0x2000) = true := by
  decide +kernel

/-- `STS.L PR,@-R1` (spec/95_test_vectors.md part 2). -/
theorem test_sts_l_pr :
    runs [0x4122] [reg 1 0x2004, putPr 0x1234]
      (fun t => t.peek32 0x2000 == 0x00001234 && t.reg 1 == 0x2000) = true := by
  decide +kernel

/-- `LDS.L @R1+,PR` (spec/95_test_vectors.md part 2). -/
theorem test_lds_l_pr :
    runs [0x4126] [long 0x2000 0x00001235, reg 1 0x2000]
      (fun t => t.pr == 0x1235 && t.reg 1 == 0x2004) = true := by
  decide +kernel

/-- `STS MACL,R1` (spec/95_test_vectors.md part 2). -/
theorem test_sts_macl :
    runs [0x011A] [putMacl 0x1234]
      (fun t => t.reg 1 == 0x1234) = true := by
  decide +kernel

/-- `CLRMAC` (spec/95_test_vectors.md part 2). -/
theorem test_clrmac :
    runs [0x0028] [putMach 1, putMacl 2]
      (fun t => t.mach == 0 && t.macl == 0) = true := by
  decide +kernel

/-- `TRAPA #0xFF` (spec/95_test_vectors.md part 2). -/
theorem test_trapa :
    runs [0xC3FF] [putSr 0xF1, reg 15 0xFFF80100]
      (fun t => t.peek32 0xFFF800F8 == 0x00001002 && t.peek32 0xFFF800FC == 0x000000F1 && t.reg 15 == 0xFFF800F8) =
        true := by
  decide +kernel

/-- E1: a misaligned longword load (spec/95_test_vectors.md). -/
theorem test_misaligned_load :
    runs [0x6212] [putVbr 0x8000, reg 15 0x4000, long 0x8024 0x00003090, reg 1 0x2001, putSr 0x31]
      (fun t => t.peek32 0x3FF8 == 0x00001002 && t.peek32 0x3FFC == 0x00000031 && t.pc == 0x3090 && t.reg 15 ==
        0x3FF8) = true := by
  decide +kernel

/-- E3: an undefined code (spec/95_test_vectors.md). -/
theorem test_general_illegal :
    runs [0x0013] [putVbr 0x8000, reg 15 0x4000, long 0x8010 0x00003040]
      (fun t => t.peek32 0x3FF8 == 0x00001000 && t.pc == 0x3040) = true := by
  decide +kernel

/-- E2: a branch in a slot, saved pc the target (spec/95_test_vectors.md). -/
theorem test_slot_illegal :
    runs [0xA000] [putVbr 0x8000, reg 15 0x4000, long 0x8018 0x00003060, slotTo 0x1008]
      (fun t => t.peek32 0x3FF8 == 0x00001008 && t.pc == 0x3060 && t.slot == .none) = true := by
  decide +kernel

/-- E6: the same after an untaken BT/S (spec/95_test_vectors.md). -/
theorem test_slot_illegal_untaken :
    runs [0xA000] [putVbr 0x8000, reg 15 0x4000, long 0x8018 0x00003060, slotUntaken]
      (fun t => t.peek32 0x3FF8 == 0x00001002 && t.pc == 0x3060) = true := by
  decide +kernel

/-- E7: the pre-decremented register moves, memory does not (spec/95_test_vectors.md). -/
theorem test_misaligned_store :
    runs [0x2126] [putVbr 0x8000, reg 15 0x4000, long 0x8024 0x00003090, reg 1 0x2006, reg 2 0xAAAAAAAA]
      (fun t => t.reg 1 == 0x2002 && t.pc == 0x3090 && t.peek32 0x2000 == 0 && t.peek32 0x2004 == 0) = true := by
  decide +kernel

/-- E9: RESBANK with nothing saved (spec/95_test_vectors.md). -/
theorem test_bank_underflow :
    runs [0x005B] [putVbr 0x8000, reg 15 0x4000, long 0x8040 0x00003100]
      (fun t => t.peek32 0x3FF8 == 0x00001000 && t.pc == 0x3100 && t.bn == 0) = true := by
  decide +kernel

/-- E10 (spec/95_test_vectors.md). -/
theorem test_divs_by_zero :
    runs [0x4194] [putVbr 0x8000, reg 15 0x4000, long 0x8044 0x00003110, reg 1 7]
      (fun t => t.peek32 0x3FF8 == 0x00001000 && t.pc == 0x3110 && t.reg 1 == 7) = true := by
  decide +kernel

/-- E11: both address registers move, MACL is kept (spec/95_test_vectors.md). -/
theorem test_mac_w_misaligned :
    runs [0x410F] [putVbr 0x8000, reg 15 0x4000, long 0x8024 0x00003090, reg 0 0x2001, reg 1 0x3000, putMacl 5]
      (fun t => t.reg 0 == 0x2003 && t.reg 1 == 0x3002 && t.macl == 5 && t.pc == 0x3090) = true := by
  decide +kernel

/-- E12: an FPU instruction without an FPU (spec/95_test_vectors.md). -/
theorem test_no_fpu :
    runs [0xF010] [putVbr 0x8000, reg 15 0x4000, long 0x8010 0x00003040, withoutFpu]
      (fun t => t.peek32 0x3FF8 == 0x00001000 && t.pc == 0x3040) = true := by
  decide +kernel

/-- E13: FMAC with PR = 1 (spec/95_test_vectors.md). -/
theorem test_fmac_double :
    runs [0xF01E] [putVbr 0x8000, reg 15 0x4000, long 0x8010 0x00003040, putFpscr 0xC0001]
      (fun t => t.pc == 0x3040 && t.fpscr == 0x000C0001) = true := by
  decide +kernel

/-- B1: IRQ of level 5 with the banks on (spec/95_test_vectors.md). -/
theorem test_interrupt_to_bank :
    runs [0x0009] [putVbr 0x8000, reg 15 0x4000, long 0x8100 0x00003400, putGbr 0x6000, putMach 1, putMacl 2, putPr
      0x77, reg 0 0x10, reg 14 0xEE, putSr 0x31, bankEnable 1, request (.irq 5 0)]
      (fun t => t.bn == 1 && t.sr == 0x51 && t.pc == 0x3400 && t.reg 15 == 0x3FF8 && t.peek32 0x3FFC == 0x00000031 &&
        t.peek32 0x3FF8 == 0x00001000) = true := by
  decide +kernel

/-- B2: the banks are full and BOVE = 0 (spec/95_test_vectors.md). -/
theorem test_interrupt_to_stack :
    runs [0x0009] [putVbr 0x8000, reg 15 0x4000, long 0x8100 0x00003400, putGbr 0x6000, putMach 1, putMacl 2, putPr
      0x77, reg 0 0x10, reg 14 0xEE, putSr 0x31, bankEnable 1, bankNumber 15, request (.irq 5 0)]
      (fun t => t.peek32 0x3FF4 == 2 && t.peek32 0x3FF0 == 1 && t.peek32 0x3FEC == 0x00006000 && t.peek32 0x3FE8 ==
        0x00000077 && t.peek32 0x3FE4 == 0x000000EE && t.peek32 0x3FAC == 0x00000010 && t.reg 15 == 0x3FAC && t.sr ==
        0x4051) = true := by
  decide +kernel

/-- B3: the banks are full and BOVE = 1 (spec/95_test_vectors.md). -/
theorem test_bank_overflow :
    runs [0x0009] [putVbr 0x8000, reg 15 0x4000, long 0x803C 0x000030F0, putGbr 0x6000, putMach 1, putMacl 2, putPr
      0x77, reg 0 0x10, reg 14 0xEE, putSr 0x31, bankEnable 1, bankNumber 15, overflowEnable, request (.irq 5 0)]
      (fun t => t.pc == 0x30F0 && t.sr == 0x51 && t.bn == 15) = true := by
  decide +kernel

/-- B6: a request at the level of IMASK waits (spec/95_test_vectors.md). -/
theorem test_masked_interrupt :
    runs [0x0009] [putVbr 0x8000, reg 15 0x4000, long 0x8100 0x00003400, putSr 0x51, request (.irq 5 0)]
      (fun t => t.pc == 0x1002 && t.sr == 0x51) = true := by
  decide +kernel

/-- B7: NMI is accepted at IMASK 15 and uses no bank (spec/95_test_vectors.md). -/
theorem test_nmi :
    runs [0x0009] [putVbr 0x8000, reg 15 0x4000, long 0x802C 0x000030B0, putSr 0xF1, bankEnable 1, request (.nmi)]
      (fun t => t.pc == 0x30B0 && t.sr == 0xF1 && t.bn == 0) = true := by
  decide +kernel

/-- B4: bank 2, entry 2 (spec/95_test_vectors.md). -/
theorem test_stbank :
    runs [0x41E1] [reg 0 0xFFFFFFFF, reg 1 0x108]
      (fun t => (t.banks.getD 2 (Vector.replicate 20 0))[2] == 0xFFFFFFFF) = true := by
  decide +kernel

/-- Both resets at once: the power-on reset is taken, also with an error and in a slot (R701, R800). -/
theorem test_power_on_before_manual :
    runs [0x0009] [long 0 0x00001234, long 4 0x00005678, long 8 0x0000AAAA, long 12 0x0000BBBB, slotTo 0x2000,
      putFpscr 0, signals true true, resets true true]
      (fun t => t.pc == 0x1234 && t.reg 15 == 0x5678 && t.fpscr == 0x00040001 && t.slot == .none &&
        t.outside == []) = true := by
  decide +kernel

/-- A reset at the step right after a slot's, with a request waiting since before the slot (R800, R802, R422). -/
theorem test_reset_right_after_a_slot :
    (match step (small [0x0009] [long 8 0x0000AAAA, long 12 0x0000BBBB, slotTo 0x2000, request .nmi,
        fun s => { s with outside := [⟨[], none, false, false⟩, ⟨[], none, false, true⟩] }]) with
      | .next t => (t.pc == 0x2000 && (match step t with
        | .next u => u.pc == 0xAAAA && u.reg 15 == 0xBBBB && u.inputs == [] && u.outside == []
        | _ => false))
      | _ => false) = true := by
  decide +kernel

/-- RESBANK lowers BN, and the low byte of IBNR shows it (R49, R485). -/
theorem test_resbank_shows_bn :
    runs [0x005B] [ibnrAt 0x9000, bankNumber 3, byte 0x9002 0x55]
      (fun t => t.bn == 2 && t.peek 0x9001 == 2 && t.peek 0x9000 == 0 && t.peek 0x9002 == 0x55) = true := by
  decide +kernel

/-- A RAM error that a DMAC error's entry left pending is gone after a reset (R57, R803). -/
theorem test_reset_drops_what_is_pending :
    (match step (small [0x0009] [putVbr 0x8000, reg 15 0x4000, long 0x8028 0x000030A0, long 0 0x00001234,
        signals true true, fun s => { s with outside := [⟨[], none, false, false⟩, ⟨[], none, true, false⟩] }]) with
      | .next t => (t.pc == 0x30A0 && t.inputs == [⟨false, true, none⟩] && (match step t with
        | .next u => u.pc == 0x1234 && u.inputs == [] && u.held == false
        | _ => false))
      | _ => false) = true := by
  decide +kernel

/-- A DMAC error leaves a request of its entry for the next boundary, and nothing of an entry that had no more (R701). -/
theorem test_dmac_error_keeps_what_ranks_lower :
    runs [0x0009] [putVbr 0x8000, reg 15 0x4000, long 0x8028 0x000030A0,
      fun s => { s with inputs := [⟨true, false, some .nmi⟩, ⟨true, false, none⟩] }]
      (fun t => t.pc == 0x30A0 && t.inputs == [⟨false, false, some .nmi⟩, ⟨true, false, none⟩]) = true ∧
    runs [0x0009] [putVbr 0x8000, reg 15 0x4000, long 0x8028 0x000030A0,
      fun s => { s with inputs := [⟨true, false, none⟩, ⟨true, false, none⟩] }]
      (fun t => t.pc == 0x30A0 && t.inputs == [⟨true, false, none⟩]) = true := by
  decide +kernel

/-- FMAC with DN = 0: a denormalized FR0 sets Cause.E and traps although FRn is a qNaN; the model's choice (log 16). -/
theorem test_fmac_denormalized_before_qnan :
    runs [0xF12E] [putVbr 0x8000, reg 15 0x4000, long 0x8034 0x000030D0, putFpscr 0x00000001, freg 0 1,
      freg 2 0x3F800000, freg 1 0x7F800001]
      (fun t => t.pc == 0x30D0 && t.fpscr == 0x00020001 && t.freg 1 == 0x7F800001) = true := by
  decide +kernel

/-- A manual reset alone keeps FPSCR (R802). -/
theorem test_manual_reset :
    runs [0x0009] [long 8 0x0000AAAA, long 12 0x0000BBBB, putFpscr 0, resets false true]
      (fun t => t.pc == 0xAAAA && t.reg 15 == 0xBBBB && t.fpscr == 0) = true := by
  decide +kernel

/-- Another bus master's writes are what the next fetch and load read (R16, R90): MOV.L @R1,R2 over NOP. -/
theorem test_bus_master_writes :
    runs [0x0009] [reg 1 0x3000, outsideActs [(0x1000, 0x62), (0x1001, 0x12), (0x3003, 0x77)] none]
      (fun t => t.reg 2 == 0x77 && t.pc == 0x1002 && t.outside == []) = true := by
  decide +kernel

/-- FPU_STOPPED set while the program runs: an FPU code becomes illegal (R8, R59). -/
theorem test_fpu_stopped_at_run_time :
    runs [0xF010] [putVbr 0x8000, reg 15 0x4000, long 0x8010 0x00003040, outsideActs [] (some true)]
      (fun t => t.pc == 0x3040 && t.fpuStopped == true) = true := by
  decide +kernel

/-- MOVML.L R15,@-R15 with one longword of the stack forbidden: the others are stored, R15 moves on (R725, log 8). -/
theorem test_movml_push_faults :
    runs [0x4FF1] [putVbr 0x8000, reg 15 0x4000, long 0x8024 0x00003090, putPr 0x77, reg 13 0xDD, reg 14 0xEE,
      forbid 0x3FF8]
      (fun t => t.pc == 0x3090 && t.reg 15 == 0x3FB8 && t.peek32 0x3FFC == 0x77 && t.peek32 0x3FF8 == 0 &&
        t.peek32 0x3FF4 == 0xDD && t.peek32 0x3FB8 == 0x1002) = true := by
  decide +kernel

/-- RESBANK from the stack with R0's longword forbidden: the others are loaded (R486, R725). -/
theorem test_resbank_faults :
    runs [0x005B] [putVbr 0x8000, reg 15 0x4000, long 0x8024 0x00003090, putSr 0x4000, long 0x4004 0x11,
      long 0x4048 0x99, forbid 0x4000]
      (fun t => t.pc == 0x3090 && t.reg 15 == 0x4044 && t.reg 1 == 0x11 && t.macl == 0x99 && t.sr == 0x4000 &&
        t.peek32 0x4044 == 0x1002) = true := by
  decide +kernel

/-- P5: SR and PC from the stack, the target waits for the slot (spec/95_test_vectors.md). -/
theorem test_rte :
    runs [0x002B] [reg 15 0x2FF8, long 0x2FF8 0x00001002, long 0x2FFC 0x000000F1, putSr 0]
      (fun t => t.slot == .taken 0x1002 && t.sr == 0xF1 && t.reg 15 == 0x3000 && t.pc == 0x1002) = true := by
  decide +kernel

/-- P4: SLEEP enters the low-power state (spec/95_test_vectors.md). -/
theorem test_sleep :
    runs [0x001B] []
      (fun t => t.power == .lowPower && t.pc == 0x1002) = true := by
  decide +kernel

/-- 1 + 2^-24 rounds to even (spec/95_test_vectors.md). -/
theorem test_fadd_tie :
    runs [0xF010] [putFpscr 0x40000, freg 0 0x3F800000, freg 1 0x33800000]
      (fun t => t.freg 0 == 0x3F800000 && t.fpscr == 0x00041004) = true := by
  decide +kernel

/-- Toward zero the sum stays at the largest number (spec/95_test_vectors.md). -/
theorem test_fadd_overflow :
    runs [0xF010] [putFpscr 0x40001, freg 0 0x7F7FFFFF, freg 1 0x7F7FFFFF]
      (fun t => t.freg 0 == 0x7F7FFFFF && t.fpscr == 0x00045015) = true := by
  decide +kernel

/-- A denormalized difference becomes zero (spec/95_test_vectors.md). -/
theorem test_fsub_underflow :
    runs [0xF011] [putFpscr 0x40000, freg 0 0x00800001, freg 1 0x00800000]
      (fun t => t.freg 0 == 0 && t.fpscr == 0x0004300C) = true := by
  decide +kernel

/-- 0 - 1 (spec/95_test_vectors.md). -/
theorem test_fsub_negates :
    runs [0xF011] [putFpscr 0x40001, freg 0 0, freg 1 0x3F800000]
      (fun t => t.freg 0 == 0xBF800000 && t.fpscr == 0x00040001) = true := by
  decide +kernel

/-- To nearest (spec/95_test_vectors.md). -/
theorem test_fmul_inexact :
    runs [0xF012] [putFpscr 0x40000, freg 0 0x3F800001, freg 1 0x3F800001]
      (fun t => t.freg 0 == 0x3F800002 && t.fpscr == 0x00041004) = true := by
  decide +kernel

/-- 0 * -inf (spec/95_test_vectors.md). -/
theorem test_fmul_invalid :
    runs [0xF012] [putFpscr 0x40001, freg 0 0, freg 1 0xFF800000]
      (fun t => t.freg 0 == 0x7FBFFFFF && t.fpscr == 0x00050041) = true := by
  decide +kernel

/-- 1/3 to nearest (spec/95_test_vectors.md). -/
theorem test_fdiv_third :
    runs [0xF013] [putFpscr 0x40000, freg 0 0x3F800000, freg 1 0x40400000]
      (fun t => t.freg 0 == 0x3EAAAAAB && t.fpscr == 0x00041004) = true := by
  decide +kernel

/-- Division by zero with Enable.Z = 1 traps and keeps FRn (spec/95_test_vectors.md). -/
theorem test_fdiv_trap :
    runs [0xF013] [putVbr 0x8000, reg 15 0x4000, long 0x8034 0x000030D0, putFpscr 0x40401, freg 0 0x3F800000, freg 1
      0x80000000]
      (fun t => t.freg 0 == 0x3F800000 && t.fpscr == 0x00048421 && t.pc == 0x30D0 && t.peek32 0x3FF8 == 0x00001002) =
        true := by
  decide +kernel

/-- The product is not rounded before the sum (spec/95_test_vectors.md). -/
theorem test_fmac_one_rounding :
    runs [0xF21E] [putFpscr 0x40000, freg 0 0x3F800001, freg 1 0x3F800001, freg 2 0xBF800002]
      (fun t => t.freg 2 == 0x28800000 && t.fpscr == 0x00040000) = true := by
  decide +kernel

/-- The root of 2 to nearest (spec/95_test_vectors.md). -/
theorem test_fsqrt :
    runs [0xF06D] [putFpscr 0x40000, freg 0 0x40000000]
      (fun t => t.freg 0 == 0x3FB504F3 && t.fpscr == 0x00041004) = true := by
  decide +kernel

/-- A quiet NaN is invalid (spec/95_test_vectors.md). -/
theorem test_fcmp_gt_nan :
    runs [0xF015] [putFpscr 0x40001, freg 0 0x7FA00000, freg 1 0x3F800000, bit 0 true]
      (fun t => !t.t && t.fpscr == 0x00050041) = true := by
  decide +kernel

/-- The two zeros are equal (spec/95_test_vectors.md). -/
theorem test_fcmp_eq_zeros :
    runs [0xF014] [putFpscr 0x40001, freg 0 0, freg 1 0x80000000]
      (fun t => t.t && t.fpscr == 0x00040001) = true := by
  decide +kernel

/-- -2^31 converts (spec/95_test_vectors.md). -/
theorem test_ftrc_limit :
    runs [0xF03D] [putFpscr 0x40001, freg 0 0xCF000000]
      (fun t => t.fpul == 0x80000000 && t.fpscr == 0x00040001) = true := by
  decide +kernel

/-- A quiet NaN converts to the most negative integer (spec/95_test_vectors.md). -/
theorem test_ftrc_invalid :
    runs [0xF03D] [putFpscr 0x40001, freg 0 0x7FA00000]
      (fun t => t.fpul == 0x80000000 && t.fpscr == 0x00050041) = true := by
  decide +kernel

/-- 2^31 - 1 toward zero (spec/95_test_vectors.md). -/
theorem test_float :
    runs [0xF02D] [putFpscr 0x40001, putFpul 0x7FFFFFFF]
      (fun t => t.freg 0 == 0x4EFFFFFF && t.fpscr == 0x00041005) = true := by
  decide +kernel

/-- To nearest (spec/95_test_vectors.md). -/
theorem test_fcnvds :
    runs [0xF0BD] [putFpscr 0xC0000, freg 0 0x3FF00000, freg 1 0x30000000]
      (fun t => t.fpul == 0x3F800002 && t.fpscr == 0x000C1004) = true := by
  decide +kernel

/-- 1.5 (spec/95_test_vectors.md). -/
theorem test_fcnvsd :
    runs [0xF0AD] [putFpscr 0xC0001, putFpul 0x3FC00000]
      (fun t => t.freg 0 == 0x3FF80000 && t.freg 1 == 0) = true := by
  decide +kernel

/-- 1 + 2^-53 rounds to even (spec/95_test_vectors.md). -/
theorem test_fadd_double :
    runs [0xF020] [putFpscr 0xC0000, freg 0 0x3FF00000, freg 2 0x3CA00000]
      (fun t => t.freg 0 == 0x3FF00000 && t.freg 1 == 0 && t.fpscr == 0x000C1004) = true := by
  decide +kernel

/-- 1/3 (spec/95_test_vectors.md). -/
theorem test_fdiv_double :
    runs [0xF023] [putFpscr 0xC0000, freg 0 0x3FF00000, freg 2 0x40080000]
      (fun t => t.freg 0 == 0x3FD55555 && t.freg 1 == 0x55555555) = true := by
  decide +kernel

/-- The sign bit alone, no exception (spec/95_test_vectors.md). -/
theorem test_fabs_nan :
    runs [0xF05D] [freg 0 0xFFC00000]
      (fun t => t.freg 0 == 0x7FC00000 && t.fpscr == 0x00040001) = true := by
  decide +kernel

/-- SZ = 1 moves a pair (spec/95_test_vectors.md). -/
theorem test_fmov_pair :
    runs [0xF02C] [putFpscr 0x140001, freg 2 0x11111111, freg 3 0x22222222]
      (fun t => t.freg 0 == 0x11111111 && t.freg 1 == 0x22222222) = true := by
  decide +kernel

/-- The even register at the lower address (spec/95_test_vectors.md). -/
theorem test_fmov_pair_store :
    runs [0xF20A] [putFpscr 0x140001, freg 0 0x01234567, freg 1 0x89ABCDEF, reg 2 0x2000]
      (fun t => t.peek32 0x2000 == 0x01234567 && t.peek32 0x2004 == 0x89ABCDEF) = true := by
  decide +kernel

/-- A pair needs an 8-byte boundary (spec/95_test_vectors.md). -/
theorem test_fmov_pair_misaligned :
    runs [0xF028] [putVbr 0x8000, reg 15 0x4000, long 0x8024 0x00003090, putFpscr 0x140001, reg 2 0x2004]
      (fun t => t.pc == 0x3090 && t.peek32 0x3FF8 == 0x00001002) = true := by
  decide +kernel

/-- FLDI1 FR3 (spec/95_test_vectors.md). -/
theorem test_fldi1 :
    runs [0xF39D] [freg 3 5]
      (fun t => t.freg 3 == 0x3F800000) = true := by
  decide +kernel

/-- FSCHG (spec/95_test_vectors.md). -/
theorem test_fschg :
    runs [0xF3FD] []
      (fun t => t.fpscr == 0x00140001) = true := by
  decide +kernel

/-- The mask 0x003FFFFF (spec/95_test_vectors.md). -/
theorem test_lds_fpscr :
    runs [0x416A] [reg 1 0xFFFFFFFF]
      (fun t => t.fpscr == 0x003FFFFF) = true := by
  decide +kernel

/-- STS.L FPSCR,@-R8 (spec/95_test_vectors.md). -/
theorem test_sts_l_fpscr :
    runs [0x4862] [reg 8 0x0C700154]
      (fun t => t.reg 8 == 0x0C700150 && t.peek32 0x0C700150 == 0x00040001) = true := by
  decide +kernel

/-! ### Witnesses: for every obligation with hypotheses, a state and operands that meet them

Registers hold 0 after reset, so R0, R1, … are readable and aligned addresses for every size. -/

/-- PC in a PC-relative operand: in the slot of a taken branch, in the slot of an untaken one, and outside a slot. -/
theorem witness_register_moves :
    (State.reset.held = false ∧ State.reset.slot = .none) ∧
    ((∀ t, (slotTo 0x2000 State.reset).slot = .taken t → (0x2002 : Word) = t + 2) ∧
      ((∀ t, (slotTo 0x2000 State.reset).slot ≠ .taken t) → (0x2002 : Word) = State.reset.pc + 4)) ∧
    ((∀ t, (slotUntaken State.reset).slot = .taken t → (4 : Word) = t + 2) ∧
      ((∀ t, (slotUntaken State.reset).slot ≠ .taken t) → (4 : Word) = State.reset.pc + 4)) ∧
    ((∀ t, State.reset.slot = .taken t → (4 : Word) = t + 2) ∧
      ((∀ t, State.reset.slot ≠ .taken t) → (4 : Word) = State.reset.pc + 4)) := by
  simp [slotTo, slotUntaken, State.reset]

theorem witness_plain_loads :
    State.reset.held = false ∧ State.reset.canAccess 1 (State.reset.reg 1 + (0xF#4).setWidth 32) = true ∧
      State.reset.canAccess 2 (State.reset.pc + 4 + (0xFF#8).setWidth 32 * 2) = true ∧
      State.reset.canAccess 4 (((State.reset.pc + 4) &&& 0xFFFFFFFC) + (0xFF#8).setWidth 32 * 4) = true ∧
      State.reset.canAccess 4 (State.reset.reg 1 + State.reset.reg 0) = true := by
  decide +kernel

theorem witness_updating_loads :
    State.reset.held = false ∧ State.reset.canAccess 1 (State.reset.reg 1 - 1) = true ∧
      State.reset.canAccess 2 (State.reset.reg 1 - 2) = true ∧ State.reset.canAccess 4 (State.reset.reg 1 - 4) = true ∧
      State.reset.canAccess 4 (State.reset.reg 1) = true ∧ State.reset.canAccess 4 (State.reset.gbr + 0x3FC) = true := by
  decide +kernel

theorem witness_disp12_transfers :
    State.reset.held = false ∧ State.reset.slot = .none ∧
      State.reset.canAccess 1 (State.reset.reg 1 + (0xFFF#12).setWidth 32) = true ∧
      State.reset.canAccess 2 (State.reset.reg 1 + (0xFFF#12).setWidth 32 * 2) = true ∧
      State.reset.canAccess 4 (State.reset.reg 1 + (0xFFF#12).setWidth 32 * 4) = true := by
  decide +kernel

theorem witness_plain_stores :
    State.reset.held = false ∧ State.reset.canAccess 1 (State.reset.reg 1 - 1) = true ∧
      State.reset.canAccess 2 (State.reset.reg 1 - 2) = true ∧ State.reset.canAccess 4 (State.reset.reg 1 - 4) = true ∧
      State.reset.canAccess 4 (State.reset.reg 1 + (0xF#4).setWidth 32 * 4) = true := by
  decide +kernel

theorem witness_gbr_and_postinc_stores :
    State.reset.held = false ∧ State.reset.canAccess 1 (State.reset.gbr + (0xFF#8).setWidth 32) = true ∧
      State.reset.canAccess 2 (State.reset.gbr + (0xFF#8).setWidth 32 * 2) = true ∧
      State.reset.canAccess 4 (State.reset.gbr + (0xFF#8).setWidth 32 * 4) = true ∧
      State.reset.canAccess 4 (State.reset.reg 1) = true := by
  decide +kernel

/-- No address of the state after reset belongs to a bank register, so every range is plain memory. -/
theorem reset_plain (a : Word) (n : Nat) : State.reset.plain a n := by
  intro k _
  rfl

theorem witness_multiple_register_moves :
    State.reset.held = false ∧ State.reset.reg 15 &&& 3 = 0 ∧ State.reset.cfg.dataForbidden = [] ∧
      Memory.wf State.reset.mem ∧ State.reset.plain (State.reset.reg 15 - 64) 64 :=
  ⟨rfl, by decide, rfl, by simp [State.reset, Memory.wf], reset_plain _ _⟩

theorem witness_add_subtract_negate : State.reset.held = false := rfl

theorem witness_comparisons : State.reset.held = false ∧ (true = true ↔ State.reset.reg 0 = (0#8).signExtend 32) ∧
    (true = true ↔ (State.reset.reg 1).toInt ≤ (State.reset.reg 2).toInt) ∧
    (false = true ↔ 0 < (State.reset.reg 1).toInt) := by
  decide +kernel

theorem witness_extend_and_clip : State.reset.held = false := rfl

/-- Each case of DIVS and DIVU: a zero divisor, the one overflow, and a quotient. -/
theorem witness_division :
    State.reset.held = false ∧ State.reset.slot = .none ∧ State.reset.reg 0 = 0 ∧
      (reg 0 0xFFFFFFFF (reg 1 0x80000000 State.reset)).reg 1 = 0x80000000 ∧
      (reg 0 0xFFFFFFFF (reg 1 0x80000000 State.reset)).reg 0 = 0xFFFFFFFF ∧
      (reg 0 1 State.reset).reg 0 ≠ 0 ∧
      ¬((reg 0 1 State.reset).reg 1 = 0x80000000 ∧ (reg 0 1 State.reset).reg 0 = 0xFFFFFFFF) := by
  decide +kernel

/-- The largest products, and a saturating and a plain accumulation. -/
theorem witness_multiplication :
    (0x4000000000000000#64).toInt = (0x80000000#32).toInt * (0x80000000#32).toInt ∧
      (0xFFFFFFFE00000001#64).toNat = (0xFFFFFFFF#32).toNat * (0xFFFFFFFF#32).toNat ∧
      State.reset.canAccess 4 (State.reset.reg 1) = true ∧ State.reset.canAccess 4 (State.reset.reg 1 + 4) = true ∧
      State.reset.canAccess 2 (State.reset.reg 1 + 2) = true ∧ State.reset.sBit = false ∧
      (bit 1 true State.reset).sBit = true ∧ (bit 1 true State.reset).held = false := by
  decide +kernel

theorem witness_logic : State.reset.held = false := rfl

theorem witness_one_bit_shifts : State.reset.held = false := rfl

/-- A left shift by 0 and by 31, a right shift by 32 and by 1. -/
theorem witness_longer_shifts :
    State.reset.held = false ∧ 0 = ((0x00000000#32).extractLsb' 0 5).toNat ∧ (0x00000000#32).msb = false ∧
      31 = ((0x0000001F#32).extractLsb' 0 5).toNat ∧ 0 = ((0xFFFFFFE0#32).extractLsb' 0 5).toNat ∧
      (0xFFFFFFE0#32).msb = true ∧ 31 = ((0xFFFFFFFF#32).extractLsb' 0 5).toNat ∧ (0xFFFFFFFF#32).msb = true := by
  decide

theorem witness_branches_without_link : State.reset.held = false ∧ State.reset.slot = .none := ⟨rfl, rfl⟩

theorem witness_calls_and_returns :
    State.reset.held = false ∧ State.reset.slot = .none ∧
      State.reset.canAccess 4 (State.reset.tbr + (0xFF#8).setWidth 32 * 4) = true := by
  decide +kernel

theorem witness_bit_tests :
    State.reset.held = false ∧ State.reset.slot = .none ∧
      State.reset.canAccess 1 (State.reset.reg 1 + (0xFFF#12).setWidth 32) = true ∧
      State.reset.canAccess 1 (State.reset.gbr + State.reset.reg 0) = true := by
  decide +kernel

theorem witness_read_modify_write :
    State.reset.held = false ∧ State.reset.slot = .none ∧ State.reset.canAccess 1 (State.reset.reg 1) = true ∧
      State.reset.canAccess 1 (State.reset.gbr + State.reset.reg 0) = true ∧
      State.reset.canAccess 1 (State.reset.reg 1 + (0xFFF#12).setWidth 32) = true := by
  decide +kernel

theorem witness_register_loads : State.reset.held = false := rfl

theorem witness_control_register_memory_forms :
    State.reset.held = false ∧ State.reset.canAccess 4 (State.reset.reg 1) = true ∧
      State.reset.canAccess 4 (State.reset.reg 1 - 4) = true := by
  decide +kernel

theorem witness_register_stores_and_sleep : State.reset.held = false := rfl

theorem reset_entryAllowed (e : Exc) (h : e.vector = 0xFF ∨ e.vector = 9 ∨ e.vector = 64) :
    State.reset.entryAllowed e := by
  obtain h | h | h := h <;> simp only [State.entryAllowed, h] <;> decide +kernel

theorem witness_trapa_and_rte :
    State.reset.slot = .none ∧ State.reset.entryAllowed (.trap 0xFF) ∧ Memory.wf State.reset.mem ∧
      State.reset.plain (State.reset.reg 15 - 8) 8 ∧ State.reset.canAccess 4 (State.reset.reg 15) = true ∧
      State.reset.canAccess 4 (State.reset.reg 15 + 4) = true :=
  ⟨rfl, reset_entryAllowed _ (.inl rfl), by simp [State.reset, Memory.wf], reset_plain _ _, by decide +kernel,
    by decide +kernel⟩

/-- Nothing saved, one bank saved, the stack used with another range forbidden; the last bank and its last entry; a product
whose IBNR is at 0x9000, so that the byte at 0x9001 is the one that shows BN. -/
theorem witness_bank_instructions :
    bankByteAt (ibnrAt 0x9000 State.reset).cfg 0x9001 = some .ibnrLow ∧
      bankByteAt (ibnrAt 0x9000 State.reset).cfg 0x9002 ≠ some .ibnrLow ∧
      (∀ k < 19, (forbid 76 (bit 14 true State.reset)).canAccess 4
        ((forbid 76 (bit 14 true State.reset)).reg 15 + BitVec.ofNat 32 (4 * k)) = true) ∧
    State.reset.held = false ∧ State.reset.slot = .none ∧ State.reset.cfg.hasBanks = true ∧ State.reset.bo = false ∧
      State.reset.bn = 0 ∧ (bankNumber 15 State.reset).bn ≠ 0 ∧
      (bankNumber 15 State.reset).banks[(bankNumber 15 State.reset).bn - 1]? = some (Vector.replicate 20 0) ∧
      (forbid 76 (bit 14 true State.reset)).bo = true ∧ State.reset.banks[14]? = some (Vector.replicate 20 0) ∧
      (reg 1 0x74C State.reset).reg 1 = BitVec.ofNat 32 (128 * 14 + 4 * 19) := by
  decide +kernel

theorem witness_fmov_registers_and_loads :
    State.reset.held = false ∧ State.reset.fpuReady = true ∧ State.reset.slot = .none ∧
      State.reset.canAccess 4 (State.reset.reg 0 + State.reset.reg 1) = true ∧
      State.reset.canAccess 8 (State.reset.reg 1) = true ∧
      State.reset.canAccess 4 (State.reset.reg 1 + (0xFFF#12).setWidth 32 * 4) = true ∧
      State.reset.canAccess 8 (State.reset.reg 1 + (0xFFF#12).setWidth 32 * 8) = true := by
  decide +kernel

theorem witness_fmov_stores :
    State.reset.held = false ∧ State.reset.fpuReady = true ∧ State.reset.slot = .none ∧
      State.reset.canAccess 4 (State.reset.reg 1 - 4) = true ∧ State.reset.canAccess 8 (State.reset.reg 1 - 8) = true ∧
      State.reset.canAccess 8 (State.reset.reg 1 + (0xFFF#12).setWidth 32 * 8) = true := by
  decide +kernel

theorem witness_fpu_register_operations :
    State.reset.held = false ∧ State.reset.fpuReady = true ∧ State.reset.fpscr.getLsbD 19 = false := by
  decide

theorem witness_fpu_control_transfers :
    State.reset.held = false ∧ State.reset.fpuReady = true ∧ State.reset.canAccess 4 (State.reset.reg 1) = true ∧
      State.reset.canAccess 4 (State.reset.reg 1 - 4) = true := by
  decide +kernel

theorem reset_fpPlain : State.reset.fpPlain := by
  unfold State.fpPlain
  decide

/-- The state after reset with PR = 1. -/
theorem double_fpPlain : (putFpscr 0x000C0001 State.reset).fpPlain := by
  unfold State.fpPlain
  decide

theorem witness_fp_completion :
    State.reset.fpPlain ∧ State.reset.fpscr.getLsbD 19 = false ∧ (putFpscr 0x000C0001 State.reset).fpPlain ∧
      (putFpscr 0x000C0001 State.reset).fpscr.getLsbD 19 = true :=
  ⟨reset_fpPlain, by decide, double_fpPlain, by decide⟩

/-- An operand of every class, in both formats, at the limits of its range. -/
theorem operand_classes :
    classify .single true 0x7FC00000 = .snan ∧ classify .single true 0x7FBFFFFF = .qnan ∧
      classify .single true 0x7F800001 = .qnan ∧ classify .single true 0xFF800000 = .inf true ∧
      classify .single true 0x7F800000 = .inf false ∧ classify .single true 0x80000000 = .zero true ∧
      classify .single true 0x007FFFFF = .zero false ∧ classify .single true 0x00800000 = .norm false 0x800000 (-149) ∧
      classify .single true 0xFF7FFFFF = .norm true 0xFFFFFF 104 ∧
      classify .double true 0x7FF8000000000000 = .snan ∧ classify .double true 0x7FF7FFFFFFFFFFFF = .qnan ∧
      classify .double true 0x7FF0000000000001 = .qnan ∧ classify .double true 0xFFF0000000000000 = .inf true ∧
      classify .double true 0x000FFFFFFFFFFFFF = .zero false ∧
      classify .double true 0x8010000000000000 = .norm true 0x10000000000000 (-1074) := by
  decide +kernel

/-- An environment that the table statements speak of: the one of the state after reset. -/
theorem reset_fpEnv : State.reset.fpEnv.dn = true ∧ State.reset.fpEnv.quietSignals = false := by decide

/-- For every line of the FADD and FSUB tables two operands of its classes are among these. -/
theorem witness_fadd_fsub_tables :
    State.reset.fpEnv.dn = true ∧ State.reset.fpEnv.quietSignals = false ∧ 0xFF7FFFFF < 2 * Fmt.single.signWeight ∧
      classify .single true 0x7FC00000 = .snan ∧ classify .single true 0x7FBFFFFF = .qnan ∧
      classify .single true 0x00800000 = .norm false 0x800000 (-149) ∧
      classify .single true 0xFF7FFFFF = .norm true 0xFFFFFF 104 ∧ classify .single true 0x80000000 = .zero true ∧
      classify .single true 0x00000000 = .zero false ∧ classify .single true 0x7F800000 = .inf false ∧
      classify .single true 0xFF800000 = .inf true := by
  decide +kernel

/-- The same for FMUL and FDIV. -/
theorem witness_fmul_fdiv_tables :
    State.reset.fpEnv.dn = true ∧ State.reset.fpEnv.quietSignals = false ∧
      0xFFFFFFFFFFFFFFFF < 2 * Fmt.double.signWeight ∧
      classify .double true 0x7FF8000000000000 = .snan ∧ classify .double true 0x7FF7FFFFFFFFFFFF = .qnan ∧
      classify .double true 0x8010000000000000 = .norm true 0x10000000000000 (-1074) ∧
      classify .double true 0x8000000000000000 = .zero true ∧ classify .double true 0x7FF0000000000000 = .inf false ∧
      (classify .double true 0x7FF0000000000000).isInf = true ∧
      (classify .double true 0x8010000000000000).isNan = false := by
  decide +kernel

/-- FMAC's classes: 0 * inf, inf * 1, 1 * 1 and 0 * 1 with every class of the addend. -/
theorem witness_fmac_table :
    State.reset.fpuReady = true ∧ State.reset.fpscr.getLsbD 19 = false ∧ State.reset.fpEnv.dn = true ∧
      State.reset.fpEnv.quietSignals = false ∧ (classify .single true 0).isZero = true ∧
      (classify .single true 0x7F800000).isInf = true ∧ (classify .single true 0x3F800000).isInf = false ∧
      (classify .single true 0x3F800000).isZero = false ∧ classify .single true 0x7FBFFFFF = .qnan ∧
      classify .single true 0x7FC00000 = .snan ∧ classify .single true 0x3F800000 = .norm false 0x800000 (-23) := by
  decide +kernel

theorem witness_fsqrt_and_precision_conversions :
    State.reset.fpuReady = true ∧ (putFpscr 0x000C0001 State.reset).fpscr.getLsbD 19 = true ∧
      State.reset.fpEnv.dn = true ∧ State.reset.fpEnv.quietSignals = false ∧
      classify .single true 0xFF800000 = .inf true ∧ classify .single true 0x7F800000 = .inf false ∧
      classify .single true 0xBF800000 = .norm true 0x800000 (-23) ∧
      classify .single true 0x00800000 = .norm false 0x800000 (-149) ∧
      classify .double true 0x7FF0000000000000 = .inf false ∧ classify .double true 0xFFF0000000000000 = .inf true ∧
      classify .double true 0x7FEFFFFFFFFFFFFF = .norm false 0x1FFFFFFFFFFFFF 971 := by
  decide +kernel

/-- The limits of FTRC: the last pattern that converts and the first that does not, for each sign. -/
theorem witness_fp_compare_and_integer_conversions :
    State.reset.fpuReady = true ∧ State.reset.held = false ∧ State.reset.fpscr.getLsbD 11 = false ∧
      (putFpscr 0x00040801 State.reset).fpscr.getLsbD 11 = true ∧
      0x4EFFFFFF % 2 ^ 31 ≤ 0x4EFFFFFF ∧ 0x4EFFFFFF < 0x4F000000 % 2 ^ 31 ∧ 0x7F800000 % 2 ^ 31 ≤ 0x7F800000 ∧
      0x7F800000 < 0x7F800001 % 2 ^ 31 ∧ 0xCF000000 % 2 ^ 31 ≤ 0x4F000000 ∧ 0x4F000000 < 0xCF000001 % 2 ^ 31 ∧
      0x41DFFFFFFFFFFFFF % 2 ^ 63 < 0x41E0000000000000 ∧ 0xC1E00000001FFFFF % 2 ^ 63 < 0x41E0000000200000 ∧
      0x41E0000000200000 ≤ 0xC1E0000000200000 % 2 ^ 63 := by
  decide +kernel

/-- The numbers 1 (exact) and 2^24 + 1/2 (sticky), the first overflow, the first underflow, and both ends of the range
between them. -/
theorem witness_fp_rounding_and_finish :
    (Exact.mk false 1 0 false).standsFor .single 1 ∧ ((2 : ℝ) ^ (0 : ℤ) ≤ 1 ∧ (1 : ℝ) < 2 ^ ((0 : ℤ) + 1)) ∧
      (Exact.mk false (2 ^ 24) 0 true).standsFor .single (2 ^ 24 + 1 / 2) ∧
      (Exact.mk true 1 128 false).standsFor .single (2 ^ (128 : ℤ)) ∧
      (Exact.mk true 1 (-127) false).standsFor .single (2 ^ (-127 : ℤ)) ∧
      (Exact.mk true 1 (-126) false).standsFor .single (2 ^ (-126 : ℤ)) ∧
      (roundExact .single true ⟨true, 1, 128, false⟩).value = 2 ^ 128 ∧
      (roundExact .single true ⟨true, 1, -126, false⟩).value = 2 ^ (-126 : ℤ) ∧
      (roundExact .single true ⟨true, 1, -127, false⟩).value = 2 ^ (-127 : ℤ) := by
  have h : Nat.log2 (2 ^ 24) = 24 := by decide +kernel
  have r1 : roundExact .single true ⟨true, 1, 128, false⟩ = ⟨2 ^ 23, 105, false⟩ := by decide +kernel
  have r2 : roundExact .single true ⟨true, 1, -126, false⟩ = ⟨2 ^ 23, -149, false⟩ := by decide +kernel
  have r3 : roundExact .single true ⟨true, 1, -127, false⟩ = ⟨2 ^ 22, -149, false⟩ := by decide +kernel
  refine ⟨by simp [Exact.standsFor], by norm_num, ?_, by simp [Exact.standsFor], by simp [Exact.standsFor],
    by simp [Exact.standsFor], ?_, ?_, ?_⟩
  · simp only [Exact.standsFor, h, Fmt.precision, Fmt.single]
    norm_num
  · rw [r1]; norm_num [Rounded.value]
  · rw [r2]; norm_num [Rounded.value]
  · rw [r3]; norm_num [Rounded.value]

/-- The first and last pattern of each class. -/
theorem witness_fp_operand_classes :
    (0x007FFFFF % 2 ^ 31 < 0x00800000 ∧ 0x00800000 ≤ 0x80800000 % 2 ^ 31 ∧ 0x7F7FFFFF % 2 ^ 31 < 0x7F800000 ∧
      0xFF800000 % 2 ^ 31 = 0x7F800000 ∧ 0x7F800000 < 0x7F800001 % 2 ^ 31 ∧ 0xFFBFFFFF % 2 ^ 31 < 0x7FC00000 ∧
      0x7FC00000 ≤ 0xFFFFFFFF % 2 ^ 31) ∧
    (0x000FFFFFFFFFFFFF % 2 ^ 63 < 0x0010000000000000 ∧ 0xFFF0000000000000 % 2 ^ 63 = 0x7FF0000000000000 ∧
      0x7FF8000000000000 ≤ 0xFFFFFFFFFFFFFFFF % 2 ^ 63) := by
  decide +kernel

theorem witness_fp_results_and_traps :
    State.reset.fpuReady = true ∧ State.reset.held = false ∧ (FpResult.exact 1).out = .write 1 ∧
      FpResult.fpuError.out = .trap := by
  decide

/-- An instruction of the list that answers a next state: a plain one, one with T, one with MACL. -/
theorem witness_register_frame :
    State.reset.held = false ∧ (∃ t, exec (.movReg 1 2) State.reset = .next t) ∧
      (∃ t, exec (.rotl 1) State.reset = .next t) ∧ (∃ t, exec (.mulL 1 2) State.reset = .next t) :=
  ⟨rfl, ⟨_, rfl⟩, ⟨_, rfl⟩, ⟨_, rfl⟩⟩

theorem witness_load_frame :
    State.reset.held = false ∧ State.reset.slot = .none ∧ State.reset.fpuReady = true ∧
      State.reset.canAccess 4 (State.reset.reg 1) = true ∧ (∃ t, exec (.movLLoad 1 2) State.reset = .next t) ∧
      State.reset.canAccess 8 (State.reset.reg 1) = true ∧ (∃ t, exec (.fmovDLoad 1 2) State.reset = .next t) :=
  ⟨rfl, rfl, rfl, by decide +kernel, ⟨_, rfl⟩, by decide +kernel, ⟨_, rfl⟩⟩

theorem witness_store_frame :
    State.reset.held = false ∧ State.reset.slot = .none ∧ Memory.wf State.reset.mem ∧ State.reset.fpuReady = true ∧
      State.reset.canAccess 4 (State.reset.reg 1 - 4) = true ∧ (∃ t, exec (.movLStorePreDec 2 1) State.reset = .next t) ∧
      State.reset.canAccess 8 (State.reset.reg 1) = true ∧ (∃ t, exec (.fmovDStore 2 1) State.reset = .next t) :=
  ⟨rfl, rfl, by simp [State.reset, Memory.wf], rfl, by decide +kernel, ⟨_, rfl⟩, by decide +kernel, ⟨_, rfl⟩⟩

theorem witness_fpu_frame :
    State.reset.fpPlain ∧ State.reset.fpscr.getLsbD 19 = false ∧ (∃ t, exec (.fmovFR 1 2) State.reset = .next t) ∧
      (putFpscr 0x000C0001 State.reset).fpPlain ∧ (putFpscr 0x000C0001 State.reset).fpscr.getLsbD 19 = true ∧
      (∃ t, exec (.fmovDR 2 4) (putFpscr 0x000C0001 State.reset) = .next t) :=
  ⟨reset_fpPlain, by decide, ⟨_, rfl⟩, double_fpPlain, by decide, ⟨_, rfl⟩⟩

/-- Each mode selects its own forms. -/
theorem witness_decode_encode :
    Instr.selectedBy .atReset (.faddFR 1 2) = true ∧ Instr.selectedBy ⟨true, false⟩ (.faddDR 2 4) = true ∧
      Instr.selectedBy ⟨false, true⟩ (.fmovDLoad 1 2) = true ∧ Instr.selectedBy .atReset (.movi20 1 0x80000) = true := by
  decide

theorem witness_encode_decode :
    decode .atReset [0xE1, 0x80, 0x00] = .instruction (.movImm 1 0x80) [0x00] ∧
      decode .atReset [0x00, 0x70, 0xFF, 0xFF] = .instruction (.movi20 0 0x7FFFF) [] := by
  decide +kernel

/-- NOP at 0x1000: without inputs, with an entry of inputs that signals nothing, in a slot, and written there by another
bus master just before the step. -/
theorem witness_step_runs_decoded_instruction :
    (small [0x0009] []).environment = small [0x0009] [] ∧
      (signals false false (small [0x0009] [])).inputs = ⟨false, false, none⟩ :: [] ∧
      (small [0x0009] []).resetSignal = none ∧
      (let u := (outsideActs [(0x1000, 0x00), (0x1001, 0x09)] none (small [0xFFFD] [])).environment
       (outsideActs [(0x1000, 0x00), (0x1001, 0x09)] none (small [0xFFFD] [])).resetSignal = none ∧
       u.canFetch u.pc = true ∧ u.longAtPc = false ∧ u.inputs = [] ∧ u.slot = .none ∧ u.held = false ∧
        u.power = .run ∧ decode u.fpMode (u.unitAt u.pc ++ u.unitAt (u.pc + 2)) = .instruction .nop [0x00, 0x00]) ∧
    (small [0x0009] []).canFetch (small [0x0009] []).pc = true ∧ (small [0x0009] []).longAtPc = false ∧
      decode (small [0x0009] []).fpMode ((small [0x0009] []).unitAt (small [0x0009] []).pc ++
        (small [0x0009] []).unitAt ((small [0x0009] []).pc + 2)) = .instruction .nop [0x00, 0x00] ∧
      (small [0x0009] []).inputs = [] ∧ (small [0x0009] []).slot = .none ∧ (small [0x0009] []).held = false ∧
      (small [0x0009] []).power = .run ∧ (small [0x0009] [slotTo 0x2000]).slot = .taken 0x2000 := by
  decide +kernel

theorem reset_inv : State.reset.Inv :=
  ⟨by simp [State.reset, Memory.wf], by decide, .inl rfl, by decide, by decide, by decide, by decide, fun h => nomatch h⟩

theorem witness_step_keeps_invariant : State.reset.Inv ∧ ∃ t, step State.reset = .next t := ⟨reset_inv, _, rfl⟩

theorem witness_control_registers_writers :
    (∃ t, exec .nop State.reset = .next t) ∧ State.reset.power = .run := ⟨⟨_, rfl⟩, rfl⟩

theorem witness_fpscr_writers :
    (∃ t, exec (.faddFR 1 2) State.reset = .next t) ∧ (∃ t, exec .fschg State.reset = .next t) ∧
      (∃ t, exec .nop State.reset = .next t) := ⟨⟨_, rfl⟩, ⟨_, rfl⟩, ⟨_, rfl⟩⟩

/-- In a taken and in an untaken slot; no FPU, no banks, the wrong precision. -/
theorem witness_illegal_codes :
    (slotTo 0x2000 State.reset).slot = .taken 0x2000 ∧ (slotUntaken State.reset).slot = .untaken ∧
      Instr.slotIllegal .rts = true ∧ Instr.slotIllegal (.movi20 1 0) = true ∧ Instr.usesFpu (.flds 1) = true ∧
      (withoutFpu State.reset).fpuReady = false ∧ Instr.usesBanks .resbank = true ∧
      ({ State.reset with cfg := { Platform.default with hasBanks := false } } : State).cfg.hasBanks = false ∧
      State.reset.fpuReady = true ∧ Instr.wrongPrecision (State.reset.fpscr.getLsbD 19) (.fcnvds 2) = true := by
  decide

/-- A 16-bit and a 32-bit undefined code, and an odd pc. -/
theorem witness_undefined_codes_and_fetch_errors :
    (small [0x0013] []).resetSignal = none ∧ (small [0x0013] []).environment = small [0x0013] [] ∧ (small [0x0013] []).inputs = [] ∧ (small [0x0013] []).held = false ∧ (small [0x0013] []).power = .run ∧
      (small [0x0013] []).canFetch 0x1000 = true ∧ (small [0x0013] []).longAtPc = false ∧
      decode (small [0x0013] []).fpMode ((small [0x0013] []).unitAt 0x1000 ++ (small [0x0013] []).unitAt 0x1002) =
        .undefined16 0x0013 ∧
      decode (small [0x3059, 0x7002] []).fpMode ((small [0x3059, 0x7002] []).unitAt 0x1000 ++
        (small [0x3059, 0x7002] []).unitAt 0x1002) = .undefined32 0x3059 0x7002 ∧
      (small [0x3059, 0x7002] []).canFetch 0x1002 = true ∧ (small [] []).canFetch 0x1001 = false := by
  decide +kernel

/-- An entry with every access allowed, and one whose stack is not aligned. -/
theorem witness_exception_entry :
    (State.reset.entryAllowed .cpuAddressError ∧ Memory.wf State.reset.mem ∧
      State.reset.plain (State.reset.reg 15 - 8) 8) ∧
    ((reg 15 0x2001 (putVbr 0x8000 State.reset)).reg 15 &&& 3 ≠ 0 ∧
      (reg 15 0x2001 (putVbr 0x8000 State.reset)).cfg.dataForbidden = [] ∧
      (reg 15 0x2001 (putVbr 0x8000 State.reset)).plain (alignDown (0x2001 - 16)) 20 ∧
      (reg 15 0x2001 (putVbr 0x8000 State.reset)).vbr &&& 3 = 0 ∧
      (∀ k < 4, ∀ j < 20, (0x8000 : Word) + 36 + BitVec.ofNat 32 k ≠ alignDown (0x2001 - 16) + BitVec.ofNat 32 j)) :=
  ⟨⟨reset_entryAllowed _ (.inr (.inl rfl)), by simp [State.reset, Memory.wf], reset_plain _ _⟩, by decide +kernel, rfl,
    fun _ _ => rfl, by decide +kernel, by decide +kernel⟩

/-- RTE at 0x1000 with a NOP in its slot, in the state a TRAPA entry left. -/
theorem witness_rte_undoes_entry :
    State.reset.Inv ∧ State.reset.entryAllowed (.trap 0xFF) ∧ State.reset.plain (State.reset.reg 15 - 8) 8 ∧
      (let t := State.reset.enter (.trap 0xFF) 0x1234 none .nowhere
       let u : State := { code [0x002B, 0x0009] 0x1000 t with pc := 0x1000 }
       u.reg 15 = t.reg 15 ∧ u.cfg = t.cfg ∧ u.peek32 (t.reg 15) = t.peek32 (t.reg 15) ∧
        u.peek32 (t.reg 15 + 4) = t.peek32 (t.reg 15 + 4) ∧ u.slot = .none ∧ u.held = false ∧ u.power = .run ∧
        u.inputs = [] ∧ u.outside = [] ∧ u.canFetch u.pc = true ∧ u.canFetch (u.pc + 2) = true ∧ u.unitAt u.pc = [0x00, 0x2B] ∧
        u.unitAt (u.pc + 2) = [0x00, 0x09]) :=
  ⟨reset_inv, reset_entryAllowed _ (.inl rfl), reset_plain _ _, by decide +kernel⟩

/-- In three parts: a single access that faults, for each size and address form; the stack sequences (RTE, RESBANK, MOVML,
MOVMU) with their first or last longword faulting; the stops, which are a bank address with a low bit set, the first entry
and the first bank that do not exist, and a reset vector of which either longword is forbidden. -/
theorem witness_faulting_accesses_and_stops :
    (State.reset.slot = .none ∧ State.reset.fpuReady = true ∧
      (∀ k ∈ [2, 4, 8], (reg 1 1 State.reset).canAccess k ((reg 1 1 State.reset).reg 1) = false ∧
        (reg 1 1 State.reset).canAccess k ((reg 1 1 State.reset).reg 1 - BitVec.ofNat 32 k) = false) ∧
      (reg 1 1 (forbid 0 State.reset)).canAccess 1 ((reg 1 1 (forbid 0 State.reset)).reg 1) = false ∧
      (reg 1 1 (forbid 0 State.reset)).canAccess 1 ((reg 1 1 (forbid 0 State.reset)).reg 1 - 1) = false ∧
      (reg 2 4 (forbid 0 State.reset)).canAccess 4 ((reg 2 4 (forbid 0 State.reset)).reg 2) = true ∧
      (reg 2 4 (forbid 0 State.reset)).canAccess 4 ((reg 2 4 (forbid 0 State.reset)).macAddr 1 2 4) = false) ∧
    (Memory.wf State.reset.mem ∧ (forbid 0 State.reset).plain ((forbid 0 State.reset).reg 15 - 64) 64 ∧
      (State.reset.cfg.hasBanks = true ∧ ({ State.reset with sr := 0x4000 } : State).bo = true ∧
        (forbid 4 State.reset).canAccess 4 (State.reset.reg 15) = true ∧
        (forbid 4 State.reset).canAccess 4 (State.reset.reg 15 + 4) = false ∧
        (forbid 72 State.reset).canAccess 4 (State.reset.reg 15 + BitVec.ofNat 32 (4 * 18)) = false ∧
        (forbid 0xFFFFFFFC State.reset).canAccess 4 (State.reset.reg 15 - BitVec.ofNat 32 (4 * (0 - 0 + 1))) = false ∧
        (forbid 0xFFFFFFFC State.reset).canAccess 4 (State.reset.reg 15 - BitVec.ofNat 32 (4 * (16 - 15))) = false ∧
        (forbid 0 State.reset).canAccess 4 (State.reset.reg 15 + BitVec.ofNat 32 (4 * (15 - 15))) = false)) ∧
    ((∀ a ∈ [1, 80, 128 * 15], ∀ k < State.reset.banks.length, ∀ e < 20, a ≠ 128 * k + 4 * e) ∧
      (forbid 0 State.reset).canAccess 4 ResetKind.powerOn.vectorAddress = false ∧
      (forbid 12 State.reset).canAccess 4 ResetKind.manual.vectorAddress = true ∧
      (forbid 12 State.reset).canAccess 4 (ResetKind.manual.vectorAddress + 4) = false ∧
      (resets true false (forbid 0 State.reset)).resetSignal = some .powerOn ∧
      (resets false true (forbid 12 State.reset)).resetSignal = some .manual) :=
  have noStore : Memory.wf State.reset.mem := by simp [State.reset, Memory.wf]
  ⟨by decide +kernel, ⟨noStore, fun _ _ => rfl, by decide +kernel⟩, by decide +kernel⟩

theorem witness_memory_access :
    Memory.wf State.reset.mem ∧ State.reset.plain 0xFFFFFFFC 4 ∧ State.reset.plain 0xFFFFFFFE 2 ∧
      State.reset.plain 0xFFFFFFF8 8 ∧ State.reset.plain 0xFFFFFFFF 1 :=
  ⟨by simp [State.reset, Memory.wf], reset_plain _ _, reset_plain _ _, reset_plain _ _, reset_plain _ _⟩

/-- The banks full with BOVE = 1 and 0, a free bank, and no banking; IBNR.BE = 0, 1 and 3. -/
theorem witness_interrupt_entry :
    State.reset.ibnrBe ≠ 2 ∧ State.reset.usesBank (.irq 5 0) = false ∧
      (bankEnable 1 State.reset).usesBank (.irq 5 0) = true ∧ (bankEnable 1 State.reset).bn ≠ State.reset.banks.length ∧
      (bankNumber 15 (bankEnable 1 State.reset)).bn = State.reset.banks.length ∧
      (overflowEnable (bankNumber 15 (bankEnable 1 State.reset))).ibnrBove = true ∧
      (bankNumber 15 (bankEnable 1 State.reset)).ibnrBove = false ∧ State.reset.bn ≤ State.reset.banks.length := by
  decide +kernel

/-- Every case of a step: each reset, a slot, an error held, the power low, each signal; and an entry of the environment
whose last byte is the one of its address. -/
theorem witness_step_events :
    (State.reset.outside = [] ∧ State.reset.environment = State.reset ∧ State.reset.resetSignal = none ∧
      (resets true true State.reset).resetSignal = some .powerOn ∧
      (resets false true State.reset).resetSignal = some .manual ∧ (slotTo 0x2000 State.reset).slot = .taken 0x2000 ∧
      State.reset.inputs = [] ∧ ({ State.reset with held := true } : State).held = true ∧
      ({ State.reset with power := .lowPower } : State).power = .lowPower ∧ State.reset.power = .run ∧
      (signals true true State.reset).inputs = ⟨true, true, none⟩ :: [] ∧
      (signals false true State.reset).inputs = ⟨false, true, none⟩ :: [] ∧
      (request .nmi State.reset).inputs = ⟨false, false, some .nmi⟩ :: [] ∧
      State.reset.acceptable .nmi = true ∧ State.reset.acceptable (.irq 15 447) = false ∧
      (outsideActs [(4, 1), (4, 2)] (some true) State.reset).outside =
        ⟨[(4, 1)] ++ [(4, 2)], some true, false, false⟩ :: []) ∧
    (Memory.wf State.reset.mem ∧ State.reset.plain 4 1) :=
  have noStore : Memory.wf State.reset.mem := by simp [State.reset, Memory.wf]
  ⟨by decide +kernel, noStore, reset_plain _ _⟩

theorem witness_bank_save_and_restore :
    State.reset.entryAllowed (.interrupt 64) ∧ State.reset.bn < State.reset.banks.length ∧
      (let t := State.reset.enter (.interrupt 64) 0x1000 (some 5) .toBank
       let u : State := { State.reset with banks := t.banks, bn := t.bn }
       u.bo = false ∧ u.slot = .none ∧ u.held = false ∧ u.cfg.hasBanks = true) ∧
      State.reset.reg 15 &&& 3 = 0 ∧ State.reset.vbr &&& 3 = 0 ∧ State.reset.cfg.dataForbidden = [] ∧
      Memory.wf State.reset.mem ∧ State.reset.plain (State.reset.reg 15 - 84) 84 :=
  ⟨reset_entryAllowed _ (.inr (.inr rfl)), by decide, by decide +kernel, by decide, by decide, rfl,
    by simp [State.reset, Memory.wf], reset_plain _ _⟩

/-- Power-on alone, both resets together, and manual alone. -/
theorem witness_reset_of_a_running_machine :
    State.reset.environment.cfg.dataForbidden = [] ∧ State.reset.cfg.hasFpu = true ∧
      (∀ m, (resets true m State.reset).outside = ⟨[], none, true, m⟩ :: []) ∧
      (resets false true State.reset).outside = ⟨[], none, false, true⟩ :: [] := by
  decide

end Sys2Proof.Tests
end

/-!
PROOFS of the statements of a whole step: which instruction it runs (O45), the order of its events (O57), and that it
keeps the invariant (O46).
-/

namespace Sys2Proof.Machine

open Sys2Proof

/-! ### The fetched instruction -/

/-- A fetch that is allowed and decodes gives the decoded instruction. -/
theorem State.fetch_instruction {s : State} {i : Instr} {rest : List Byte} (hpc : s.canFetch s.pc = true)
    (hlong : s.longAtPc = true → s.canFetch (s.pc + 2) = true)
    (hdecode : decode s.fpMode (s.unitAt s.pc ++ s.unitAt (s.pc + 2)) = .instruction i rest) :
    s.fetch = .instruction i := by
  have hsecond : (s.longAtPc && !s.canFetch (s.pc + 2)) = false := by
    cases hl : s.longAtPc
    · rfl
    · rw [hlong hl]; rfl
  rw [State.fetch, hpc, hsecond, hdecode]
  rfl

theorem State.runInstruction_of_fetch {s : State} {i : Instr} (h : s.fetch = .instruction i) :
    s.runInstruction = exec i s := by
  simp [State.runInstruction, h]

/-! ### What each event makes of a step -/

theorem State.stepNoReset_next {s t : State} (h : s.event = .next t) : s.stepNoReset = .next t := by
  simp [State.stepNoReset, h]
theorem State.stepNoReset_execute {s t : State} (h : s.event = .execute t) : s.stepNoReset = t.runInstruction := by
  simp [State.stepNoReset, h]

section Order

variable {s u t : State}

/-- Below the reset a step is the event of the state after the environment's acts (R703). -/
theorem step_of_event_next (hreset : s.resetSignal = none) (hu : u = s.environment) (h : u.event = .next t) :
    step s = .next t := by
  rw [step_noReset hreset, ← hu, State.stepNoReset_next h]
theorem step_of_event_execute (hreset : s.resetSignal = none) (hu : u = s.environment) (h : u.event = .execute t) :
    step s = t.runInstruction := by
  rw [step_noReset hreset, ← hu, State.stepNoReset_execute h]

end Order

theorem State.acceptedRequest_eq_none {s : State} {i : Inputs} :
    s.acceptedRequest i = none ↔ ∀ r, i.request = some r → s.acceptable r = false := by
  simp [State.acceptedRequest, Option.filter_eq_none_iff]
theorem State.acceptedRequest_eq_some {s : State} {i : Inputs} {r : IntReq} :
    s.acceptedRequest i = some r ↔ i.request = some r ∧ s.acceptable r = true := by
  simp [State.acceptedRequest, Option.filter_eq_some_iff]

/-- The low-power state lasts unless a request is acceptable (R780). -/
def State.awake (s : State) (i : Inputs) : Prop :=
  s.power = .run ∨ ∃ r, i.request = some r ∧ s.acceptable r = true

theorem State.awake_iff {s : State} {i : Inputs} :
    s.awake i ↔ ¬ (s.power = .lowPower ∧ s.acceptedRequest i = none) := by
  unfold State.awake
  cases s.power <;> simp [State.acceptedRequest_eq_none]

section Boundary

variable {s : State} {i : Inputs} (rest : List Inputs)

theorem State.boundary_asleep (hp : s.power = .lowPower) (hr : ∀ r, i.request = some r → s.acceptable r = false) :
    s.boundary i rest = .next { s with inputs := rest } := by
  simp [State.boundary, hp, State.acceptedRequest_eq_none.mpr hr]
theorem State.boundary_dmacError (ha : s.awake i) (hd : i.dmacError = true) :
    s.boundary i rest = .next (State.raise { s with inputs := Inputs.keepPending { i with dmacError := false } rest }
      .dmacAddressError s.pc) := by
  simp [State.boundary, State.awake_iff.mp ha, hd]
theorem State.boundary_ramError (ha : s.awake i) (hd : i.dmacError = false) (hm : i.ramError = true) :
    s.boundary i rest = .next (State.raise { s with inputs := Inputs.keepPending { i with ramError := false } rest }
      .ramError s.pc) := by
  simp [State.boundary, State.awake_iff.mp ha, hd, hm]
theorem State.boundary_request {r : IntReq} (hd : i.dmacError = false) (hm : i.ramError = false)
    (hr : i.request = some r) (ha : s.acceptable r = true) :
    s.boundary i rest = .next (State.interruptEntry { s with inputs := rest } r) := by
  simp [State.boundary, hd, hm, State.acceptedRequest_eq_some.mpr ⟨hr, ha⟩]
theorem State.boundary_quiet (hp : s.power = .run) (hd : i.dmacError = false) (hm : i.ramError = false)
    (hr : ∀ r, i.request = some r → s.acceptable r = false) :
    s.boundary i rest = .execute { s with inputs := rest } := by
  simp [State.boundary, hp, hd, hm, State.acceptedRequest_eq_none.mpr hr]

end Boundary

/-- Settles O45: at an idle boundary, at one whose inputs signal nothing, and in the slot of a taken branch the event is
the instruction, and its fetch gives the decoded one. -/
theorem step_runs_decoded_instruction : Obligations.step_runs_decoded_instruction := by
  unfold Obligations.step_runs_decoded_instruction
  intro s u i rest hreset hu hpc hlong hdecode
  have hfetch : u.fetch = .instruction i := State.fetch_instruction hpc hlong hdecode
  refine ⟨fun h => hu.trans (State.environment_none h), fun hinputs hslot hheld hpower => ?idle,
    fun js hinputs hslot hheld hpower => ?quiet, fun target hslot => ?slot⟩
  case idle =>
    have hevent : u.event = .execute u := by simp [State.event_idle hslot hheld hinputs, hpower]
    rw [step_of_event_execute hreset hu hevent, State.runInstruction_of_fetch hfetch]
  case quiet =>
    have hevent : u.event = .execute { u with inputs := js } := by
      rw [State.event_boundary hslot hheld hinputs]
      exact State.boundary_quiet js hpower rfl rfl (fun _ h => nomatch h)
    have hrun : State.runInstruction { u with inputs := js } = exec i { u with inputs := js } :=
      State.runInstruction_of_fetch hfetch
    rw [step_of_event_execute hreset hu hevent, hrun]
  case slot =>
    rw [step_of_event_execute hreset hu (State.event_slot hslot), State.runInstruction_of_fetch hfetch]

/-! ### What other bus masters write -/

@[simp] theorem State.busWrites_append (s : State) (vs ws : List (Word × Byte)) :
    s.busWrites (vs ++ ws) = (s.busWrites vs).busWrites ws := List.foldl_append

@[simp] theorem State.busWrites_cfg (s : State) (ws : List (Word × Byte)) : (s.busWrites ws).cfg = s.cfg := by
  obtain ⟨m, c, e, o, h⟩ := State.busWrites_frame ws s
  rw [h]

theorem State.busWrites_wf (ws : List (Word × Byte)) :
    ∀ {s : State}, Memory.wf s.mem → Memory.wf (s.busWrites ws).mem := by
  induction ws with
  | nil => exact fun h => h
  | cons w ws ih => exact fun {s} h => ih (s.poke_wf w.1 w.2 h)

/-- A byte that nobody writes reads as before. -/
theorem State.peek_busWrites_other (ws : List (Word × Byte)) (a : Word) :
    ∀ {s : State}, Memory.wf s.mem → (∀ w ∈ ws, w.1 ≠ a) → (s.busWrites ws).peek a = s.peek a := by
  induction ws with
  | nil => exact fun _ _ => rfl
  | cons w ws ih =>
    intro s hm hw
    have htail : ∀ x ∈ ws, x.1 ≠ a := fun x hx => hw x (List.mem_cons_of_mem w hx)
    have hhead : a ≠ w.1 := (hw w List.mem_cons_self).symm
    rw [State.busWrites_cons, ih (s.poke_wf w.1 w.2 hm) htail, State.peek_poke_other s w.1 a w.2 hhead hm]

/-- The last write of a plain byte is the one that stays. -/
theorem State.peek_busWrites_last (ws : List (Word × Byte)) (a : Word) (v : Byte) {s : State} (hm : Memory.wf s.mem)
    (ha : bankByteAt s.cfg a = none) : (s.busWrites (ws ++ [(a, v)])).peek a = v := by
  rw [State.busWrites_append, State.busWrites_cons, State.busWrites_nil]
  exact State.peek_poke_same _ a v (by rw [State.busWrites_cfg]; exact ha) (State.busWrites_wf ws hm)

/-- The environment's entry for one step: its writes, FPU_STOPPED where it says so, and the entry is used up. -/
theorem State.environment_cons {s : State} {o : Outside} {os : List Outside} (h : s.outside = o :: os) :
    s.environment = { s.busWrites o.writes with fpuStopped := o.fpuStopped.getD s.fpuStopped, outside := os } := by
  simp [State.environment, h]

/-- A byte reads the same whatever the platform's own fields hold. -/
theorem State.peek_platform (s : State) (b : Bool) (os : List Outside) (a : Word) :
    State.peek { s with fpuStopped := b, outside := os } a = s.peek a := rfl

/-! ### What is left of an entry of inputs -/

theorem Inputs.keepPending_afterDmacError (i : Inputs) (rest : List Inputs) :
    Inputs.keepPending { i with dmacError := false } rest =
      if i.ramError = false ∧ i.request = none then rest else { i with dmacError := false } :: rest := by
  cases hm : i.ramError <;> cases hr : i.request <;> simp [Inputs.keepPending]
theorem Inputs.keepPending_afterRamError (i : Inputs) (rest : List Inputs) (hd : i.dmacError = false) :
    Inputs.keepPending { i with ramError := false } rest =
      if i.request = none then rest else { i with ramError := false } :: rest := by
  cases hr : i.request <;> simp [Inputs.keepPending, hd]

/-! ### What the environment leaves alone -/

/-- All but memory, the bank registers in it, FPU_STOPPED and its own list. -/
theorem State.environment_same (s : State) : SameRegs s s.environment [] ∧ SameFregs s s.environment [] ∧
    SameSpecials s s.environment [] ∧ SameBanks s s.environment := by
  obtain ⟨m, c, e, o, f, l, h⟩ := s.environment_frame
  rw [h]
  exact ⟨fun _ _ => rfl, fun _ _ => rfl, fun x _ => by cases x <;> rfl, rfl, rfl⟩

/-- Settles O57: the environment's acts by induction on its writes, then one lemma for each event in its order. -/
theorem step_events : Obligations.step_events := by
  unfold Obligations.step_events
  intro s u i js hu
  refine ⟨fun h => ⟨hu.trans (State.environment_none h), State.resetSignal_nil h⟩, fun o os ho hm => ?outside, ?frame,
    fun k hk => hu ▸ step_reset hk, fun hreset target hslot => step_of_event_execute hreset hu (State.event_slot hslot),
    fun hreset hslot => ?boundary⟩
  case outside =>
    rw [State.environment_cons ho] at hu
    subst hu
    refine ⟨State.resetSignal_cons ho, rfl, rfl, fun a ha => ?_, fun ws a v hw ha => ?_⟩
    · rw [State.peek_platform, State.peek_busWrites_other _ _ hm ha]
    · have hplain : bankByteAt s.cfg a = none := by simpa using ha 0 (by decide)
      rw [State.peek_platform, hw, State.peek_busWrites_last ws a v hm hplain]
  case frame =>
    subst hu
    exact ⟨s.environment_pc, s.environment_sr, s.environment_slot, s.environment_held, s.environment_power,
      s.environment_inputs, s.environment_cfg, s.environment_same⟩
  case boundary =>
    have hidle (hh : u.held = false) (hi : u.inputs = []) := State.event_idle hslot hh hi
    have hentry (hh : u.held = false) (hi : u.inputs = i :: js) := State.event_boundary hslot hh hi
    refine ⟨?held, ?lowPowerIdle, ?lowPowerEntry, ?dmacError, ?ramError, ?request, ?quiet, ?idle⟩
    case held =>
      intro hh
      exact step_of_event_next hreset hu (State.event_held hslot hh)
    case lowPowerIdle =>
      intro hh hp hi
      exact step_of_event_next hreset hu (by simp [hidle hh hi, hp])
    case lowPowerEntry =>
      intro hh hp hi hr
      exact step_of_event_next hreset hu ((hentry hh hi).trans (State.boundary_asleep js hp hr))
    case dmacError =>
      intro hh ha hi hd
      apply step_of_event_next hreset hu
      rw [hentry hh hi, State.boundary_dmacError js ha hd, Inputs.keepPending_afterDmacError]
    case ramError =>
      intro hh ha hi hd hm
      apply step_of_event_next hreset hu
      rw [hentry hh hi, State.boundary_ramError js ha hd hm, Inputs.keepPending_afterRamError i js hd]
    case request =>
      intro r hh hi hd hm hr ha
      exact step_of_event_next hreset hu ((hentry hh hi).trans (State.boundary_request js hd hm hr ha))
    case quiet =>
      intro hh hp hi hd hm hr
      exact step_of_event_execute hreset hu ((hentry hh hi).trans (State.boundary_quiet js hp hd hm hr))
    case idle =>
      intro hh hp hi
      exact step_of_event_execute hreset hu (by simp [hidle hh hi, hp])

/-! ### Instructions keep the invariant: the shapes beyond Laws/Inv.lean -/

theorem Res.Keeps.ite {c : Prop} [Decidable c] {r q : Res} (hr : r.Keeps) (hq : q.Keeps) :
    Res.Keeps (if c then r else q) := by
  split
  · exact hr
  · exact hq

theorem State.Inv.of_macl {s : State} (h : s.Inv) (v : Word) : State.Inv { s with macl := v } :=
  h.of_same rfl rfl rfl rfl rfl rfl rfl rfl rfl

theorem State.Inv.loadPostInc {r : Word × State} (h : r.2.Inv) (m n : GReg) (size : Word) :
    (loadPostInc m n size r).Keeps := by
  have ht := h.setReg n r.1
  unfold Machine.loadPostInc
  simp only
  split
  · exact ht.done 2
  · exact (ht.setReg _ _).done 2

theorem State.Inv.clipSigned {s : State} (h : s.Inv) (n : GReg) (low high : Word) : (s.clipSigned n low high).Inv := by
  unfold State.clipSigned
  split
  · exact (h.setReg n high).setCs true
  · split
    · exact (h.setReg n low).setCs true
    · exact h
theorem State.Inv.clipUnsigned {s : State} (h : s.Inv) (n : GReg) (high : Word) : (s.clipUnsigned n high).Inv := by
  unfold State.clipUnsigned
  split
  · exact (h.setReg n high).setCs true
  · exact h

theorem State.Inv.macAdvance {s : State} (h : s.Inv) (m n : GReg) (size : Word) : (s.macAdvance m n size).Inv :=
  (h.setReg _ _).setReg _ _

/-- A load of a control register, by the register's own writing. -/
theorem State.Inv.loadControl {s : State} (h : s.Inv) (m : GReg) {put : State → Word → State}
    (hput : ∀ {t : State}, t.Inv → ∀ v, (put t v).Inv) : (s.loadControl m put).Inv :=
  (hput (h.load32 _) _).setReg _ _
theorem State.Inv.popInto {s : State} (h : s.Inv) {put : State → Word → State}
    (hput : ∀ {t : State}, t.Inv → ∀ v, (put t v).Inv) : (s.popInto put).Inv :=
  (hput (h.load32 _) _).setReg _ _
theorem State.Inv.popBank {s : State} (h : s.Inv) : s.popBank.Inv :=
  ((((State.Inv.popList _ h).popInto State.Inv.setPr).popInto State.Inv.setGbr).popInto State.Inv.setMach).popInto
    State.Inv.setMacl

/-- A bank write keeps the number of banks (R46). -/
theorem State.Inv.setBank {s : State} (h : s.Inv) (k : Nat) (b : Bank) :
    State.Inv { s with banks := s.banks.set k b } := by
  have hlength : (s.banks.set k b).length = s.banks.length := List.length_set
  exact ⟨h.memory, h.status, h.mask, h.fpscr, hlength ▸ h.banks, hlength ▸ h.count, h.control, h.lowPower⟩
/-- A restore frees a bank (R47). -/
theorem State.Inv.freeBank {s : State} (h : s.Inv) : State.Inv { s with bn := s.bn - 1 } :=
  ⟨h.memory, h.status, h.mask, h.fpscr, (Nat.sub_le _ _).trans h.banks, h.count, h.control, h.lowPower⟩
theorem State.Inv.restoreBank {s : State} (h : s.Inv) (b : Bank) : (s.restoreBank b).Inv :=
  h.of_same rfl rfl rfl rfl rfl rfl rfl rfl rfl

/-- The end of SLEEP: the power is low with no branch pending (R780). -/
theorem State.Inv.goto_lowPower {s : State} (h : s.Inv) (a : Word) :
    (State.goto { s with power := .lowPower } a).Inv :=
  ⟨h.memory, h.status, h.mask, h.fpscr, h.banks, h.count, h.control, fun _ => rfl⟩

@[simp] theorem State.pop_power (s : State) : s.pop.2.power = s.power := by
  unfold State.pop State.load32
  cases s.read32 s.sp <;> rfl

theorem State.Inv.returnFromException {s : State} (h : s.Inv) (hp : s.power = .run) : s.returnFromException.Inv := by
  have hpop : s.pop.2.pop.2.power = .run := by simp [hp]
  exact (h.pop.pop.setSr _).delayTo hpop _

/-! ### Instructions with several outcomes -/

section Several

variable {s : State} (h : s.Inv)
include h

theorem execDivs_keeps (n : GReg) : (execDivs n s).Keeps :=
  h.outsideSlot 2 ((Res.keeps_next (h.raise _ _)).ite ((Res.keeps_next (h.raise _ _)).ite (h.putReg _ _ _)))
theorem execDivu_keeps (n : GReg) : (execDivu n s).Keeps :=
  h.outsideSlot 2 ((Res.keeps_next (h.raise _ _)).ite (h.putReg _ _ _))

theorem execMacL_keeps (m n : GReg) : (execMacL m n s).Keeps := by
  have ht := h.macAdvance m n 4
  unfold execMacL
  split
  · exact (ht.setMac _).done _
  · exact ht.addressError.done _
theorem execMacW_keeps (m n : GReg) : (execMacW m n s).Keeps := by
  have ht := h.macAdvance m n 2
  unfold execMacW
  split
  · exact (ht.setMac _).done _
  · exact ht.addressError.done _

theorem execTasB_keeps (n : GReg) : (execTasB n s).Keeps := by
  unfold execTasB
  simp only
  split
  · exact ((h.setT _).store8 _ _).done _
  · exact h.addressError.done _

theorem execJsrNTbr_keeps (d : BitVec 8) : (execJsrNTbr d s).Keeps := by
  refine h.outsideSlot 2 ?_
  split
  · exact Res.keeps_next ((h.link _).jump _)
  · exact (h.link _).addressError.done _

theorem execSleep_keeps : (execSleep s).Keeps := Res.keeps_next (h.goto_lowPower _).acceptHeld

theorem execResbank_keeps : (execResbank s).Keeps :=
  h.outsideSlot 2 (h.withBanks ((h.popBank.done 2).ite
    ((Res.keeps_next (h.raise _ _)).ite ((h.freeBank.restoreBank _).done 2))))
theorem execLdbank_keeps (m : GReg) : (execLdbank m s).Keeps := by
  refine h.withBanks ?_
  split
  · exact h.putReg _ _ _
  · exact Res.keeps_fault _
theorem execStbank_keeps (n : GReg) : (execStbank n s).Keeps := by
  refine h.withBanks ?_
  split
  · exact (h.setBank _ _).done _
  · exact Res.keeps_fault _

theorem execFschg_keeps : (execFschg s).Keeps :=
  h.withFpu 2 (h.withPrecision false ((h.of_fpscr _ (outside_xor h.fpscr (h.in_mask (by decide)))).done 2))

end Several

/-! ### Every instruction -/

/-- Every instruction keeps the invariant when it runs with the power on, which only a delayed branch needs. -/
theorem exec_keeps {s : State} (h : s.Inv) (hp : s.power = .run) (i : Instr) : Res.Keeps (exec i s) := by
  cases i with
  -- A value, or a load, into a general register.
  | movImm | movReg | mova | movrt | movt | swapB | swapW | xtrct | add | addImm | neg | sub | extsB | extsW | extuB
  | extuW | mulr | andReg | andImm | notReg | orReg | orImm | xorReg | xorImm | shll2 | shll8 | shll16 | shlr2 | shlr8
  | shlr16 | shad | shld | stcSr | stcGbr | stcVbr | stcTbr | stsMach | stsMacl | stsPr | bclrReg | bsetReg | bstReg =>
    exact h.putReg _ _ _
  | movi20 | movi20s => exact h.outsideSlot _ (h.putReg _ _ _)
  | movBLoad | movBLoadDisp4 | movBLoadIdx | movBLoadGbr => exact (h.load8s _).putReg _ _ _
  | movWPcRel | movWLoad | movWLoadDisp4 | movWLoadIdx | movWLoadGbr => exact (h.load16s _).putReg _ _ _
  | movLPcRel | movLLoad | movLLoadDisp4 | movLLoadIdx | movLLoadGbr => exact (h.load32 _).putReg _ _ _
  | movBLoadPostInc => exact State.Inv.loadPostInc (h.load8s _) _ _ _
  | movWLoadPostInc => exact State.Inv.loadPostInc (h.load16s _) _ _ _
  | movLLoadPostInc => exact State.Inv.loadPostInc (h.load32 _) _ _ _
  | movBLoadPreDec => exact ((h.setReg _ _).load8s _).putReg _ _ _
  | movWLoadPreDec => exact ((h.setReg _ _).load16s _).putReg _ _ _
  | movLLoadPreDec => exact ((h.setReg _ _).load32 _).putReg _ _ _
  | movBLoadDisp12 => exact h.outsideSlot _ ((h.load8s _).putReg _ _ _)
  | movWLoadDisp12 => exact h.outsideSlot _ ((h.load16s _).putReg _ _ _)
  | movLLoadDisp12 => exact h.outsideSlot _ ((h.load32 _).putReg _ _ _)
  | movuBLoadDisp12 => exact h.outsideSlot _ ((h.load8u _).putReg _ _ _)
  | movuWLoadDisp12 => exact h.outsideSlot _ ((h.load16u _).putReg _ _ _)
  -- Stores.
  | movBStore | movBStoreDisp4 | movBStoreIdx | movBStoreGbr => exact (h.store8 _ _).done _
  | movWStore | movWStoreDisp4 | movWStoreIdx | movWStoreGbr => exact (h.store16 _ _).done _
  | movLStore | movLStoreDisp4 | movLStoreIdx | movLStoreGbr => exact (h.store32 _ _).done _
  | movBStorePreDec | movBStorePostInc => exact ((h.store8 _ _).setReg _ _).done _
  | movWStorePreDec | movWStorePostInc => exact ((h.store16 _ _).setReg _ _).done _
  | movLStorePreDec | movLStorePostInc => exact ((h.store32 _ _).setReg _ _).done _
  | movBStoreDisp12 => exact h.outsideSlot _ ((h.store8 _ _).done _)
  | movWStoreDisp12 => exact h.outsideSlot _ ((h.store16 _ _).done _)
  | movLStoreDisp12 => exact h.outsideSlot _ ((h.store32 _ _).done _)
  | movmlPush | movmuPush => exact (State.Inv.pushList _ h).done _
  | movmlPop | movmuPop => exact (State.Inv.popList _ h).done _
  -- T, the division flags and CS.
  | nott | cmpEqImm | cmpEq | cmpHs | cmpGe | cmpHi | cmpGt | cmpPl | cmpPz | cmpStr | tstReg | tstImm | clrt | sett
  | bldReg => exact (h.setT _).done _
  | addc | addv | negc | subc | subv | dt | rotl | rotr | rotcl | rotcr | shal | shar | shll | shlr =>
    exact (h.setT _).putReg _ _ _
  | div0s | div0u => exact (((h.setQ _).setM _).setT _).done _
  | div1 => exact ((((h.setReg _ _).setReg _ _).setQ _).setT _).done _
  | clipsB | clipsW => exact (h.clipSigned _ _ _).done _
  | clipuB | clipuW => exact (h.clipUnsigned _ _).done _
  | divs n => exact execDivs_keeps h n
  | divu n => exact execDivu_keeps h n
  -- The accumulator.
  | dmulsL | dmuluL | clrmac => exact (h.setMac _).done _
  | mulL | mulsW | muluW => exact (h.of_macl _).done _
  | macL m n => exact execMacL_keeps h m n
  | macW m n => exact execMacW_keeps h m n
  -- Bytes and bits of memory.
  | andBGbr | orBGbr | xorBGbr => exact (h.modifyByte _ _).done _
  | tstBGbr => exact (h.testByte _ _).done _
  | tasB n => exact execTasB_keeps h n
  | bandB | bandnotB | borB | bornotB | bxorB | bldB | bldnotB => exact h.outsideSlot _ ((h.testByte _ _).done _)
  | bclrB | bsetB | bstB => exact h.outsideSlot _ ((h.modifyByte _ _).done _)
  -- Branches.
  | bf => exact h.outsideSlot _ ((h.done _).ite (Res.keeps_next (h.jump _)))
  | bt => exact h.outsideSlot _ ((Res.keeps_next (h.jump _)).ite (h.done _))
  | bfS => exact h.outsideSlot _ ((Res.keeps_next (h.delayNone hp)).ite (Res.keeps_next (h.delayTo hp _)))
  | btS => exact h.outsideSlot _ ((Res.keeps_next (h.delayTo hp _)).ite (Res.keeps_next (h.delayNone hp)))
  | bra | braf | jmp | rts => exact h.outsideSlot _ (Res.keeps_next (h.delayTo hp _))
  | bsr | bsrf | jsr => exact h.outsideSlot _ (Res.keeps_next ((h.link (s.pc + 4)).delayTo hp _))
  | jsrNTbr d => exact execJsrNTbr_keeps h d
  | jsrN => exact h.outsideSlot _ (Res.keeps_next ((h.link _).jump _))
  | rtsN => exact h.outsideSlot _ (Res.keeps_next (h.jump _))
  | rtvN => exact h.outsideSlot _ (Res.keeps_next ((h.setReg _ _).jump _))
  -- System control.
  | nop | pref => exact h.done _
  | ldcSr => exact (h.setSr _).done _
  | ldcGbr => exact (h.setGbr _).done _
  | ldcVbr => exact (h.setVbr _).done _
  | ldcTbr => exact (h.setTbr _).done _
  | ldsMach => exact (h.setMach _).done _
  | ldsMacl => exact (h.setMacl _).done _
  | ldsPr => exact (h.setPr _).done _
  | ldcLSr => exact (h.loadControl _ State.Inv.setSr).done _
  | ldcLGbr => exact (h.loadControl _ State.Inv.setGbr).done _
  | ldcLVbr => exact (h.loadControl _ State.Inv.setVbr).done _
  | ldsLMach => exact (h.loadControl _ State.Inv.setMach).done _
  | ldsLMacl => exact (h.loadControl _ State.Inv.setMacl).done _
  | ldsLPr => exact (h.loadControl _ State.Inv.setPr).done _
  | stcLSr | stcLGbr | stcLVbr | stsLMach | stsLMacl | stsLPr => exact (h.storeControl _ _).done _
  | rte => exact h.outsideSlot _ (Res.keeps_next (h.returnFromException hp))
  | sleep => exact execSleep_keeps h
  | trapa => exact h.outsideSlot _ (Res.keeps_next (h.raise _ _))
  | resbank => exact execResbank_keeps h
  | ldbank m => exact execLdbank_keeps h m
  | stbank n => exact execStbank_keeps h n
  -- Floating-point arithmetic.
  | faddFR => exact h.fpToFr _ (fpAdd_raises _ _ _ _)
  | faddDR => exact h.fpToDr _ (fpAdd_raises _ _ _ _)
  | fsubFR => exact h.fpToFr _ (fpSub_raises _ _ _ _)
  | fsubDR => exact h.fpToDr _ (fpSub_raises _ _ _ _)
  | fmulFR => exact h.fpToFr _ (fpMul_raises _ _ _ _)
  | fmulDR => exact h.fpToDr _ (fpMul_raises _ _ _ _)
  | fdivFR => exact h.fpToFr _ (fpDiv_raises _ _ _ _)
  | fdivDR => exact h.fpToDr _ (fpDiv_raises _ _ _ _)
  | fmac => exact h.withFpu _ (h.withPrecision _ (h.fpToFr _ (fpMac_raises _ _ _ _)))
  | fsqrtFR => exact h.fpToFr _ (fpSqrt_raises _ _ _)
  | fsqrtDR => exact h.fpToDr _ (fpSqrt_raises _ _ _)
  | fcmpEqFR | fcmpEqDR | fcmpGtFR | fcmpGtDR => exact h.fpCompareT _ _ _
  | fcnvds => exact h.withFpu _ (h.withPrecision _ (h.fpToFpul (fpDoubleToSingle_raises _ _)))
  | fcnvsd => exact h.withFpu _ (h.withPrecision _ (h.fpToDr _ (fpSingleToDouble_raises _ _)))
  | floatFR => exact h.fpToFr _ (fpFloatSingle_raises _ _)
  | floatDR => exact h.fpToDr _ (fpFloatDouble_raises _ _)
  | ftrcFR => exact h.fpToFpul (fpTruncSingle_raises _ _)
  | ftrcDR => exact h.fpToFpul (fpTruncDouble_raises _ _)
  -- Floating-point transfers.
  | fabsFR | fabsDR | fnegFR | fnegDR | fmovFR | fsts => exact h.withFpu _ ((h.setFreg _ _).done _)
  | fmovDR => exact h.withFpu _ ((h.setDreg _ _).done _)
  | fldi0 | fldi1 => exact h.withFpu _ (h.withPrecision _ ((h.setFreg _ _).done _))
  | fmovSStore | fmovSStoreIdx => exact h.withFpu _ ((h.store32 _ _).done _)
  | fmovDStore | fmovDStoreIdx => exact h.withFpu _ ((h.store64 _ _).done _)
  | fmovSLoad | fmovSLoadIdx => exact h.withFpu _ (((h.load32 _).setFreg _ _).done _)
  | fmovDLoad | fmovDLoadIdx => exact h.withFpu _ (((h.load64 _).setDreg _ _).done _)
  | fmovSLoadPostInc => exact h.withFpu _ ((((h.load32 _).setFreg _ _).setReg _ _).done _)
  | fmovDLoadPostInc => exact h.withFpu _ ((((h.load64 _).setDreg _ _).setReg _ _).done _)
  | fmovSStorePreDec => exact h.withFpu _ (((h.store32 _ _).setReg _ _).done _)
  | fmovDStorePreDec => exact h.withFpu _ (((h.store64 _ _).setReg _ _).done _)
  | fmovSStoreDisp12 => exact h.withFpu _ (h.outsideSlot _ ((h.store32 _ _).done _))
  | fmovDStoreDisp12 => exact h.withFpu _ (h.outsideSlot _ ((h.store64 _ _).done _))
  | fmovSLoadDisp12 => exact h.withFpu _ (h.outsideSlot _ (((h.load32 _).setFreg _ _).done _))
  | fmovDLoadDisp12 => exact h.withFpu _ (h.outsideSlot _ (((h.load64 _).setDreg _ _).done _))
  | flds | ldsFpul => exact h.withFpu _ ((h.setFpul _).done _)
  | fschg => exact execFschg_keeps h
  | ldsLFpul => exact h.withFpu _ ((h.loadControl _ State.Inv.setFpul).done _)
  | ldsFpscr => exact h.withFpu _ ((h.setFpscr _).done _)
  | ldsLFpscr => exact h.withFpu _ ((h.loadControl _ State.Inv.setFpscr).done _)
  | stsFpul | stsFpscr => exact h.withFpu _ (h.putReg _ _ _)
  | stsLFpul | stsLFpscr => exact h.withFpu _ ((h.storeControl _ _).done _)

/-! ### Fetch, events and resets -/

theorem State.Inv.fetchError {s : State} (h : s.Inv) : s.fetchError.Inv := by
  unfold State.fetchError
  split
  · exact (h.goto _).raise _ _
  · exact h.raise _ _

theorem State.Inv.runInstruction {s : State} (h : s.Inv) (hp : s.power = .run) : s.runInstruction.Keeps := by
  unfold State.runInstruction
  split
  · exact exec_keeps h hp _
  · exact Res.keeps_next (h.illegal _)
  · exact Res.keeps_next h.fetchError

theorem State.Inv.withInputs {s : State} (h : s.Inv) (l : List Inputs) : State.Inv { s with inputs := l } :=
  h.of_same rfl rfl rfl rfl rfl rfl rfl rfl rfl

/-- An interrupt saves to a bank only where one is free (R51, R54). -/
theorem State.Inv.interruptEntry {s : State} (h : s.Inv) (r : IntReq) : (s.interruptEntry r).Inv := by
  unfold State.interruptEntry
  simp only
  split
  · split
    · split
      · exact h.enter _ _ _ _ (fun x => by cases x)
      · exact h.enter _ _ _ _ (fun x => by cases x)
    · rename_i hfull
      exact h.enter _ _ _ _ (fun _ => by simpa using hfull)
  · exact h.enter _ _ _ _ (fun x => by cases x)

/-- An event keeps the invariant, and an instruction starts with the power on. -/
def Event.Keeps : Event → Prop
  | .next t => t.Inv
  | .execute t => t.Inv ∧ t.power = .run

theorem State.Inv.boundary {s : State} (h : s.Inv) (i : Inputs) (rest : List Inputs) : (s.boundary i rest).Keeps := by
  have hl (l : List Inputs) : State.Inv { s with inputs := l } := h.withInputs l
  unfold State.boundary
  split
  · exact hl _
  · rename_i hawake
    split
    · exact (hl _).raise _ _
    · split
      · exact (hl _).raise _ _
      · split
        · exact (hl _).interruptEntry _
        · rename_i hnone
          refine ⟨hl _, ?_⟩
          show s.power = .run
          cases hpower : s.power
          · rfl
          · exact absurd ⟨hpower, hnone⟩ hawake

/-- A branch is pending only with the power on, so its slot instruction runs so too (R780). -/
theorem State.Inv.event {s : State} (h : s.Inv) : s.event.Keeps := by
  have hawake (hl : s.power ≠ .lowPower) : s.power = .run := by
    cases hpower : s.power
    · rfl
    · exact absurd hpower hl
  unfold State.event
  split
  · rename_i target hslot
    exact ⟨h, hawake (fun hl => by simp [h.lowPower hl] at hslot)⟩
  · split
    · exact h.raise _ _
    · split
      · exact h.boundary _ _
      · split
        · exact h
        · rename_i hl
          exact ⟨h, hawake hl⟩

theorem State.Inv.stepNoReset {s : State} (h : s.Inv) : s.stepNoReset.Keeps := by
  have he := h.event
  unfold State.stepNoReset
  split
  · rename_i t ht
    rw [ht] at he
    exact Res.keeps_next he
  · rename_i t ht
    rw [ht] at he
    obtain ⟨hinv, hpower⟩ := he
    exact hinv.runInstruction hpower

/-- A reset writes SR with M, Q, S, T open, IMASK all ones and every other bit 0 (R801). -/
theorem State.resetCpu_status (s : State) (pc sp : Word) : (s.resetCpu pc sp).sr &&& ~~~srMask = 0 :=
  outside_or (outside_mono (outside_masked _ 0x303) (by decide)) (by decide)

theorem State.Inv.resetCpu {s : State} (h : s.Inv) (pc sp : Word) : (s.resetCpu pc sp).Inv := by
  have hstatus := s.resetCpu_status pc sp
  unfold State.resetCpu at *
  exact ⟨h.memory, hstatus, h.mask, h.fpscr, Nat.zero_le _, h.count, h.control, fun _ => rfl⟩

theorem State.Inv.resetRest_fpscr {s : State} (h : s.Inv) : s.resetRest.fpscr &&& ~~~s.cfg.fpscrMask = 0 := by
  show (if s.cfg.hasFpu then (0x00040001 : Word) else s.fpscr) &&& ~~~s.cfg.fpscrMask = 0
  split
  · exact h.in_mask (by decide)
  · exact h.fpscr

theorem State.Inv.resetRest {s : State} (h : s.Inv) : s.resetRest.Inv := by
  have hlength : s.resetRest.banks.length = s.banks.length := by simp [State.resetRest]
  have hbanks : s.bn ≤ s.resetRest.banks.length := hlength ▸ h.banks
  have hcount : 1 ≤ s.resetRest.banks.length ∧ s.resetRest.banks.length ≤ 512 := hlength ▸ h.count
  have hcontrol : s.resetRest.ibcr.getLsbD 0 = false := by simp [State.resetRest]
  have hfpscr := h.resetRest_fpscr
  unfold State.resetRest at *
  exact ⟨h.memory, h.status, h.mask, hfpscr, hbanks, hcount, hcontrol, h.lowPower⟩

theorem State.Inv.resetMachine {s : State} (h : s.Inv) (k : ResetKind) : (s.resetMachine k).Keeps := by
  unfold State.resetMachine
  split
  · cases k
    · exact Res.keeps_next (h.resetCpu _ _).resetRest
    · exact Res.keeps_next (h.resetCpu _ _)
  · exact fun _ ht => nomatch ht

/-- A step is a reset, or what comes after the environment's acts (R16, R703). -/
theorem step_keeps {s : State} (h : s.Inv) : Res.Keeps (step s) := by
  unfold step
  split
  · exact h.environment.resetMachine _
  · exact h.environment.stepNoReset

/-- Settles O46: the environment, every reset, every event and every instruction keep the invariant. -/
theorem step_keeps_invariant : Obligations.step_keeps_invariant := by
  unfold Obligations.step_keeps_invariant
  exact fun s t h ht => step_keeps h t ht

end Sys2Proof.Machine

/-!
PROOFS of the statements of the state: what its registers, banks and control fields hold after transfers, floating-point
results, interrupt entries and resets, and which instructions may write each of them (O24, O28, O37, O47 to O49, O56,
O58 to O60).
-/

namespace Sys2Proof.Machine

open Sys2Proof

/-! ### The end of an instruction with nothing held -/

/-- Going on at the next pc is the `after` of the statements (R421, R440). -/
theorem State.goto_nextPc (s : State) (len : Word) : s.goto (s.nextPc len) = s.after len := by
  unfold State.goto State.nextPc State.after
  cases s.slot <;> rfl

theorem State.complete_after {s : State} (h : s.held = false) (len : Word) : s.complete len = s.after len := by
  rw [State.complete_quiet h, State.goto_nextPc]

theorem State.done_after {s : State} (h : s.held = false) (len : Word) : s.done len = .next (s.after len) := by
  rw [State.done_eq, State.complete_after h]

/-- Control after an instruction that raised nothing is where a following exception is saved (R750). -/
theorem State.after_pc (s : State) (len : Word) : (s.after len).pc = s.following len := by
  unfold State.after State.following
  cases s.slot <;> rfl

/-- Where control goes next depends on pc and the slot only. -/
theorem State.following_congr {s t : State} (hpc : t.pc = s.pc) (hslot : t.slot = s.slot) (len : Word) :
    t.following len = s.following len := by
  unfold State.following
  rw [hpc, hslot]

/-! ### Transfers of FPUL and FPSCR -/

theorem State.loadControl_ok {s : State} {m : GReg} (h : s.canAccess 4 (s.reg m) = true)
    (put : State → Word → State) : s.loadControl m put = (put s (s.peek32 (s.reg m))).setReg m (s.reg m + 4) := by
  simp only [State.loadControl, State.load32_ok h]

theorem State.storeControl_ok {s : State} {n : GReg} (h : s.canAccess 4 (s.reg n - 4) = true) (v : Word) :
    s.storeControl n v = (s.poke32 (s.reg n - 4) v).setReg n (s.reg n - 4) := by
  simp only [State.storeControl, State.store32_ok h]

/-- An instruction that needs an FPU and then ends with nothing held. -/
theorem State.withFpu_done {s t : State} (hf : s.fpuReady = true) (h : t.held = false) (len : Word) :
    s.withFpu len (t.done len) = .next (t.after len) := by
  rw [State.withFpu_ready hf, State.done_after h]

/-- The same for a load of a control register from an address that may be read. -/
theorem State.withFpu_loadControl {s : State} {m : GReg} (hh : s.held = false) (hf : s.fpuReady = true)
    (hc : s.canAccess 4 (s.reg m) = true) {put : State → Word → State} (hput : ∀ v, (put s v).held = s.held) :
    s.withFpu 2 ((s.loadControl m put).done 2) =
      .next (((put s (s.peek32 (s.reg m))).setReg m (s.reg m + 4)).after 2) := by
  rw [State.loadControl_ok hc, State.withFpu_done hf (by rw [State.setReg_held, hput, hh])]

/-- The same for a store of a control register to an address that may be written. -/
theorem State.withFpu_storeControl {s : State} {n : GReg} (hh : s.held = false) (hf : s.fpuReady = true)
    (hc : s.canAccess 4 (s.reg n - 4) = true) (v : Word) :
    s.withFpu 2 ((s.storeControl n v).done 2) =
      .next (((s.poke32 (s.reg n - 4) v).setReg n (s.reg n - 4)).after 2) := by
  rw [State.storeControl_ok hc, State.withFpu_done hf (by simpa using hh)]

/-- Settles O28: each transfer is its register write, its load or its store, ended with nothing held. -/
theorem fpu_control_transfers : Obligations.fpu_control_transfers := by
  unfold Obligations.fpu_control_transfers
  refine ⟨fun m s => ⟨rfl, fun hh hf => ?_⟩, fun m s => ⟨rfl, fun hh hf hc => ?_⟩, fun m s => ⟨rfl, fun hh hf => ?_⟩,
    fun m s => ⟨rfl, fun hh hf hc => ?_⟩, fun n s => ⟨rfl, fun hh hf => ?_⟩, fun n s => ⟨rfl, fun hh hf => ?_⟩,
    fun n s => ⟨rfl, fun hh hf hc => ?_⟩, fun n s => ⟨rfl, fun hh hf hc => ?_⟩⟩
  · exact State.withFpu_done (t := s.setFpul (s.reg m)) hf hh 2
  · exact State.withFpu_loadControl (put := State.setFpul) hh hf hc (fun _ => rfl)
  · exact State.withFpu_done (t := s.setFpscr (s.reg m)) hf hh 2
  · exact State.withFpu_loadControl (put := State.setFpscr) hh hf hc (fun _ => rfl)
  · exact State.withFpu_done (t := s.setReg n s.fpul) hf hh 2
  · exact State.withFpu_done (t := s.setReg n (s.fpscr &&& s.cfg.fpscrMask)) hf hh 2
  · exact State.withFpu_storeControl hh hf hc _
  · exact State.withFpu_storeControl hh hf hc _

/-! ### Results of the FPU -/

section Deliver

variable {s : State} {r : FpResult}

/-- A pattern is written to its destination (R507). -/
theorem State.fpDeliver32_write {x : Nat} (hr : r.out = .write x) (put : State → Word → State) :
    s.fpDeliver32 r put = (put (s.fpRaise r.raised) (BitVec.ofNat 32 x)).done 2 := by
  simp only [State.fpDeliver32, hr]
theorem State.fpDeliver64_write {x : Nat} (hr : r.out = .write x) (put : State → Quad → State) :
    s.fpDeliver64 r put = (put (s.fpRaise r.raised) (BitVec.ofNat 64 x)).done 2 := by
  simp only [State.fpDeliver64, hr]
/-- A trap leaves the destination (R507). -/
theorem State.fpDeliver32_trap (hr : r.out = .trap) (put : State → Word → State) :
    s.fpDeliver32 r put = (s.fpRaise r.raised).fpuTrap := by
  simp only [State.fpDeliver32, hr]
theorem State.fpDeliver64_trap (hr : r.out = .trap) (put : State → Quad → State) :
    s.fpDeliver64 r put = (s.fpRaise r.raised).fpuTrap := by
  simp only [State.fpDeliver64, hr]

/-- The FPU exception of an instruction that ends with nothing held saves the address control goes to next (R738). -/
theorem State.fpuTrap_after (h : s.held = false) :
    s.fpuTrap = .next ((s.after 2).raise .fpu (s.following 2)) := by
  simp only [State.fpuTrap, State.complete_after h, State.after_pc]

/-- That address is the one before Cause and Flag were written. -/
theorem State.fpRaise_fpuTrap (h : s.held = false) (raised : Word) :
    (s.fpRaise raised).fpuTrap = .next (((s.fpRaise raised).after 2).raise .fpu (s.following 2)) := by
  rw [State.fpuTrap_after (s := s.fpRaise raised) h]
  exact congrArg (fun saved => Host.Outcome.next (((s.fpRaise raised).after 2).raise .fpu saved))
    (State.following_congr rfl rfl 2)

end Deliver

/-- What writing Cause and Flag leaves alone. -/
theorem State.fpRaise_same (s : State) (raised : Word) : SameRegs s (s.fpRaise raised) [] ∧
    SameFregs s (s.fpRaise raised) [] ∧ SameSpecials s (s.fpRaise raised) [.fpscr] := by
  refine ⟨fun _ _ => rfl, fun _ _ => rfl, fun x hx => ?_⟩
  cases x
  case fpscr => exact absurd List.mem_cons_self hx
  all_goals rfl

/-- Settles O37: the three deliveries by what the result is, then the fields of FPSCR. -/
theorem fp_results_and_traps : Obligations.fp_results_and_traps := by
  unfold Obligations.fp_results_and_traps
  refine ⟨fun s n r hf => ⟨fun hh => ⟨fun x hx => ?_, fun ht => ?_⟩, fun hh => ⟨fun x hx => ?_, fun ht => ?_⟩,
    fun hh => ⟨fun x hx => ?_, fun ht => ?_⟩⟩, fun s raised => ?_, fun s => ⟨rfl, rfl, rfl, rfl, rfl, rfl, rfl⟩⟩
  · rw [State.fpToFr, State.fpDeliver32_write hx, State.withFpu_done hf (by exact hh)]
  · rw [State.fpToFr, State.withFpu_ready hf, State.fpDeliver32_trap ht, State.fpRaise_fpuTrap hh]
  · rw [State.fpToDr, State.fpDeliver64_write hx, State.withFpu_done hf (by exact hh)]
  · rw [State.fpToDr, State.withFpu_ready hf, State.fpDeliver64_trap ht, State.fpRaise_fpuTrap hh]
  · rw [State.fpToFpul, State.fpDeliver32_write hx, State.withFpu_done hf (by exact hh)]
  · rw [State.fpToFpul, State.withFpu_ready hf, State.fpDeliver32_trap ht, State.fpRaise_fpuTrap hh]
  · obtain ⟨hregs, hfregs, hspecials⟩ := s.fpRaise_same raised
    have hmask : (~~~0x0003F000 : Word) = 0xFFFC0FFF := by decide
    exact ⟨by rw [State.fpRaise_fpscr, hmask], hregs, hfregs, rfl, rfl, hspecials⟩

/-! ### Interrupts -/

theorem State.acceptable_iff (s : State) (r : IntReq) :
    s.acceptable r = true ↔ r = .nmi ∨ s.imask.toNat < r.priority := by
  simp [State.acceptable]

/-- Every request but NMI and the user break may use the banks (R50). -/
theorem IntReq.bankable_iff (r : IntReq) : r.bankable = true ↔ r ≠ .nmi ∧ r ≠ .userBreak := by
  cases r <;> simp [IntReq.bankable]

theorem State.usesBank_iff (s : State) (r : IntReq) : s.usesBank r = true ↔ s.cfg.hasBanks = true ∧ r ≠ .nmi ∧
    r ≠ .userBreak ∧ (s.ibnrBe = 1 ∨ (s.ibnrBe = 3 ∧ s.ibcr.getLsbD r.maskLevel.toNat = true)) := by
  simp only [State.usesBank, Bool.and_eq_true, Bool.or_eq_true, beq_iff_eq, IntReq.bankable_iff, and_assoc]

section Entry

variable {s : State} {r : IntReq}

/-- Banks full with BOVE = 1: the bank overflow exception (R745). -/
theorem State.interruptEntry_overflow (hu : s.usesBank r = true) (hfull : s.banks.length ≤ s.bn)
    (ho : s.ibnrBove = true) : s.interruptEntry r = s.enter .bankOverflow s.pc (some r.maskLevel) .nowhere := by
  simp [State.interruptEntry, hu, hfull, ho]
/-- Banks full with BOVE = 0: the save goes to the stack (R54). -/
theorem State.interruptEntry_toStack (hu : s.usesBank r = true) (hfull : s.banks.length ≤ s.bn)
    (ho : s.ibnrBove = false) :
    s.interruptEntry r = s.enter (.interrupt r.vector) s.pc (some r.maskLevel) .toStack := by
  simp [State.interruptEntry, hu, hfull, ho]
/-- A free bank takes the save (R51). -/
theorem State.interruptEntry_toBank (hu : s.usesBank r = true) (hfree : s.bn < s.banks.length) :
    s.interruptEntry r = s.enter (.interrupt r.vector) s.pc (some r.maskLevel) .toBank := by
  simp [State.interruptEntry, hu, Nat.not_le.mpr hfree]
theorem State.interruptEntry_plain (hu : s.usesBank r = false) :
    s.interruptEntry r = s.enter (.interrupt r.vector) s.pc (some r.maskLevel) .nowhere := by
  simp [State.interruptEntry, hu]

end Entry

/-- Settles O56: acceptance, levels and the use of the banks, then the entry by whether the banks are used and full. -/
theorem interrupt_entry : Obligations.interrupt_entry := by
  unfold Obligations.interrupt_entry
  refine ⟨State.acceptable_iff, ⟨rfl, rfl, rfl, fun _ _ => ⟨rfl, rfl, rfl, rfl⟩⟩, fun s r _ => s.usesBank_iff r,
    fun s r hbn => ⟨fun hu hfull ho => ?overflow, fun hu hfull ho => ?toStack, fun hu hfree => ?toBank,
      State.interruptEntry_plain⟩⟩
  case overflow => exact State.interruptEntry_overflow hu hfull.ge ho
  case toStack => exact State.interruptEntry_toStack hu hfull.ge ho
  case toBank => exact State.interruptEntry_toBank hu (Nat.lt_of_le_of_ne hbn hfree)

/-! ### Resets -/

/-- Settles O47: the reset state lists no memory, sets no reserved bit, and has the 15 banks of R8's default product. -/
theorem reset_has_invariant : Obligations.reset_has_invariant := by
  have hbanks : State.reset.banks.length = 15 := List.length_replicate
  exact ⟨Memory.nil_wf, by decide, .inl rfl, by decide, Nat.zero_le _, by rw [hbanks]; decide, rfl, fun _ => rfl⟩

/-- Settles O60: every value is a field of the reset state; memory lists nothing, so both vectors read 0. -/
theorem reset_state_values : Obligations.reset_state_values := by
  exact ⟨rfl, rfl, rfl, rfl, rfl, rfl, rfl, rfl, rfl, rfl, rfl, rfl, rfl, rfl, rfl, rfl⟩

/-- A data access on its boundary where no range is forbidden is allowed (R84, R86). -/
theorem State.canAccess_unrestricted {s : State} (h : s.cfg.dataForbidden = []) {n : Nat} {a : Word}
    (ha : a.toNat % n = 0) : s.canAccess n a = true := by
  simp [State.canAccess, h, ha]

/-- The two resets where no data access is forbidden: PC and R15 from their vectors (R801, R802). -/
theorem State.resetMachine_powerOn {s : State} (h : s.cfg.dataForbidden = []) :
    s.resetMachine .powerOn = .next (s.resetCpu (s.peek32 0) (s.peek32 4)).resetRest := by
  have hpc : s.read32 0 = some (s.peek32 0) := State.read32_ok (State.canAccess_unrestricted h (by decide))
  have hsp : s.read32 4 = some (s.peek32 4) := State.read32_ok (State.canAccess_unrestricted h (by decide))
  have hnext : ResetKind.powerOn.vectorAddress + 4 = 4 := by decide
  simp only [State.resetMachine, hnext, hsp]
  simp only [ResetKind.vectorAddress, hpc]
theorem State.resetMachine_manual {s : State} (h : s.cfg.dataForbidden = []) :
    s.resetMachine .manual = .next (s.resetCpu (s.peek32 8) (s.peek32 12)) := by
  have hpc : s.read32 8 = some (s.peek32 8) := State.read32_ok (State.canAccess_unrestricted h (by decide))
  have hsp : s.read32 12 = some (s.peek32 12) := State.read32_ok (State.canAccess_unrestricted h (by decide))
  have hnext : ResetKind.manual.vectorAddress + 4 = 12 := by decide
  simp only [State.resetMachine, hnext, hsp]
  simp only [ResetKind.vectorAddress, hpc]

/-- SR after a reset, whatever its open bits M, Q, S and T: IMASK 15, BO and CS 0, no reserved bit (R801). -/
theorem State.reset_sr_fields {s : State} {w : Word} (h : s.sr = (w &&& 0x00000303) ||| 0x000000F0) :
    s.imask = 15 ∧ s.bo = false ∧ s.cs = false ∧ s.sr &&& 0xFFFF9C0C = 0 := by
  simp only [State.imask, State.bo, State.cs, h]
  refine ⟨?_, by simp, by simp, ?_⟩
  · ext i hi
    interval_cases i <;> simp
  · ext i hi
    interval_cases i <;> simp

section ResetFields

variable (s : State) (pc sp : Word)

@[simp] theorem State.resetCpu_pc : (s.resetCpu pc sp).pc = pc := by simp only [State.resetCpu]
@[simp] theorem State.resetCpu_vbr : (s.resetCpu pc sp).vbr = 0 := by simp only [State.resetCpu]
@[simp] theorem State.resetCpu_power : (s.resetCpu pc sp).power = .run := by simp only [State.resetCpu]
@[simp] theorem State.resetCpu_bn : (s.resetCpu pc sp).bn = 0 := by simp only [State.resetCpu]
@[simp] theorem State.resetCpu_banks : (s.resetCpu pc sp).banks = s.banks := by simp only [State.resetCpu]
@[simp] theorem State.resetCpu_ibcr : (s.resetCpu pc sp).ibcr = s.ibcr := by simp only [State.resetCpu]
@[simp] theorem State.resetCpu_ibnrBe : (s.resetCpu pc sp).ibnrBe = s.ibnrBe := by simp only [State.resetCpu]
@[simp] theorem State.resetCpu_ibnrBove : (s.resetCpu pc sp).ibnrBove = s.ibnrBove := by simp only [State.resetCpu]
@[simp] theorem State.resetCpu_fregs : (s.resetCpu pc sp).fregs = s.fregs := by simp only [State.resetCpu]
@[simp] theorem State.resetCpu_fpul : (s.resetCpu pc sp).fpul = s.fpul := by simp only [State.resetCpu]
@[simp] theorem State.resetCpu_fpscr : (s.resetCpu pc sp).fpscr = s.fpscr := by simp only [State.resetCpu]
@[simp] theorem State.resetCpu_outside : (s.resetCpu pc sp).outside = s.outside := by simp only [State.resetCpu]
@[simp] theorem State.resetCpu_mem : (s.resetCpu pc sp).mem = s.mem := by simp only [State.resetCpu]
@[simp] theorem State.resetCpu_cfg : (s.resetCpu pc sp).cfg = s.cfg := by simp only [State.resetCpu]
@[simp] theorem State.resetCpu_fpuStopped : (s.resetCpu pc sp).fpuStopped = s.fpuStopped := by
  simp only [State.resetCpu]
@[simp] theorem State.resetCpu_reg15 : (s.resetCpu pc sp).reg 15#4 = sp := by simp [State.reg, State.resetCpu]

@[simp] theorem State.resetRest_reg (n : GReg) : s.resetRest.reg n = s.reg n := by
  simp only [State.reg, State.resetRest]
@[simp] theorem State.resetRest_pc : s.resetRest.pc = s.pc := by simp only [State.resetRest]
@[simp] theorem State.resetRest_sr : s.resetRest.sr = s.sr := by simp only [State.resetRest]
@[simp] theorem State.resetRest_vbr : s.resetRest.vbr = s.vbr := by simp only [State.resetRest]
@[simp] theorem State.resetRest_slot : s.resetRest.slot = s.slot := by simp only [State.resetRest]
@[simp] theorem State.resetRest_held : s.resetRest.held = s.held := by simp only [State.resetRest]
@[simp] theorem State.resetRest_power : s.resetRest.power = s.power := by simp only [State.resetRest]
@[simp] theorem State.resetRest_bn : s.resetRest.bn = s.bn := by simp only [State.resetRest]
@[simp] theorem State.resetRest_ibcr : s.resetRest.ibcr = 0 := by simp only [State.resetRest]
@[simp] theorem State.resetRest_ibnrBe : s.resetRest.ibnrBe = 0 := by simp only [State.resetRest]
@[simp] theorem State.resetRest_ibnrBove : s.resetRest.ibnrBove = false := by simp only [State.resetRest]
@[simp] theorem State.resetRest_outside : s.resetRest.outside = s.outside := by simp only [State.resetRest]
@[simp] theorem State.resetRest_mem : s.resetRest.mem = s.mem := by simp only [State.resetRest]
@[simp] theorem State.resetRest_cfg : s.resetRest.cfg = s.cfg := by simp only [State.resetRest]
@[simp] theorem State.resetRest_fpuStopped : s.resetRest.fpuStopped = s.fpuStopped := by simp only [State.resetRest]
@[simp] theorem State.resetRest_banks_length : s.resetRest.banks.length = s.banks.length := by simp [State.resetRest]
/-- FPSCR is given a value on a product with an FPU (R801). -/
theorem State.resetRest_fpscr (h : s.cfg.hasFpu = true) : s.resetRest.fpscr = 0x00040001 := if_pos h

end ResetFields

/-- The lines of an entry that asks for a reset (R701, R800). -/
theorem Outside.reset_eq {o : Outside} {k : ResetKind}
    (h : if o.powerOn = true then k = .powerOn else o.manual = true ∧ k = .manual) : o.reset = some k := by
  split at h
  · next hp => rw [h, Outside.reset_powerOn hp]
  · next hp =>
    obtain ⟨hm, hk⟩ := h
    rw [hk, Outside.reset_manual (Bool.eq_false_iff.mpr hp) hm]

/-- Settles O59: a step with a reset line is the reset itself; its fields, for each of the two kinds. -/
theorem reset_of_a_running_machine : Obligations.reset_of_a_running_machine := by
  unfold Obligations.reset_of_a_running_machine
  intro s u o os k hu hd ho hk
  have hsignal : s.resetSignal = some k := (State.resetSignal_cons ho).trans (Outside.reset_eq hk)
  have houtside : u.outside = os := by rw [hu, State.environment_cons ho]
  rw [step_reset hsignal, ← hu]
  cases k with
  | powerOn =>
    refine ⟨_, State.resetMachine_powerOn hd, ?_⟩
    simp only
    generalize u.peek32 0 = pc, u.peek32 4 = sp
    have hsr : (u.resetCpu pc sp).resetRest.sr =
      (Config.freeWord (u.freeCount + 16) &&& 0x00000303) ||| 0x000000F0 := State.resetRest_sr _
    obtain ⟨himask, hbo, hcs, hreserved⟩ := State.reset_sr_fields hsr
    rw [State.resetRest_sr] at hreserved
    have hfpscr (hf : u.cfg.hasFpu = true) := State.resetRest_fpscr (u.resetCpu pc sp) hf
    simpa [himask, hbo, hcs, houtside] using And.intro hreserved hfpscr
  | manual =>
    refine ⟨_, State.resetMachine_manual hd, ?_⟩
    simp only
    generalize u.peek32 8 = pc, u.peek32 12 = sp
    obtain ⟨himask, hbo, hcs, hreserved⟩ := State.reset_sr_fields (s := u.resetCpu pc sp) rfl
    simpa [himask, hbo, hcs, houtside] using hreserved

end Sys2Proof.Machine

/-! ### Register banks: restores -/

namespace Sys2Proof.Machine

open Sys2Proof

/-- The end of an instruction outside a slot with nothing held: the next instruction (R421). -/
theorem State.done_goto {s : State} (hh : s.held = false) (hs : s.slot = .none) (len : Word) :
    s.done len = .next (s.goto (s.pc + len)) := by
  rw [State.done_eq, State.complete_quiet hh, State.nextPc, hs]

theorem State.withBanks_present {s : State} (h : s.cfg.hasBanks = true) (r : Res) : s.withBanks r = r := by
  simp [State.withBanks, h]

/-- The registers that a bank does not hold are VBR, TBR, FPUL and FPSCR. -/
theorem SameSpecials.of_unsaved {s t : State} (hvbr : t.vbr = s.vbr) (htbr : t.tbr = s.tbr) (hfpul : t.fpul = s.fpul)
    (hfpscr : t.fpscr = s.fpscr) : SameSpecials s t [.gbr, .mach, .macl, .pr] := by
  intro x hx
  cases x with
  | vbr => exact hvbr
  | tbr => exact htbr
  | fpul => exact hfpul
  | fpscr => exact hfpscr
  | gbr | mach | macl | pr => simp at hx

/-- What a byte reads as depends on memory, IBCR and IBNR; BN shows in the low byte of IBNR alone (R49). -/
theorem State.peek_congr {s t : State} (hcfg : t.cfg = s.cfg) (hmem : t.mem = s.mem) (hibcr : t.ibcr = s.ibcr)
    (hbe : t.ibnrBe = s.ibnrBe) (hbove : t.ibnrBove = s.ibnrBove) {a : Word}
    (ha : bankByteAt s.cfg a ≠ some .ibnrLow) : t.peek a = s.peek a := by
  unfold State.peek
  rw [hcfg, hmem, hibcr, hbe, hbove]
  cases hb : bankByteAt s.cfg a with
  | none => rfl
  | some b =>
    cases b with
    | ibnrLow => exact absurd hb ha
    | ibcrHigh | ibcrLow | ibnrHigh => rfl

/-- R0 to R14 after a restore are the bank's first entries; R15 is not copied (R485). -/
theorem State.restoreBank_reg (s : State) (b : Bank) (k : Nat) (h : k < 15) :
    (s.restoreBank b).reg (BitVec.ofNat 4 k) = b[k] := by
  interval_cases k <;> rfl

/-- RESBANK with BO = 0 and a bank saved restores that bank and frees it (R485). -/
theorem execResbank_bank {s : State} {b : Bank} (hh : s.held = false) (hs : s.slot = .none)
    (hp : s.cfg.hasBanks = true) (hbo : s.bo = false) (hbn : s.bn ≠ 0) (hb : s.banks[s.bn - 1]? = some b) :
    execResbank s = .next ((State.restoreBank { s with bn := s.bn - 1 } b).goto (s.pc + 2)) := by
  have hrun : execResbank s = (State.restoreBank { s with bn := s.bn - 1 } b).done 2 := by
    simp [execResbank, State.outsideSlot_none hs, State.withBanks_present hp, hbo, hbn, State.bankAt_some hb]
  have hdone := State.done_goto (s := State.restoreBank { s with bn := s.bn - 1 } b) hh hs 2
  exact hrun.trans hdone

/-- RESBANK with BO = 0 and nothing saved is the bank underflow exception (R485). -/
theorem execResbank_underflow {s : State} (hs : s.slot = .none) (hp : s.cfg.hasBanks = true) (hbo : s.bo = false)
    (hbn : s.bn = 0) : execResbank s = .next (s.raise .bankUnderflow s.pc) := by
  simp [execResbank, State.outsideSlot_none hs, State.withBanks_present hp, hbo, hbn]

/-- RESBANK with BO = 1 pops the registers (R485). -/
theorem execResbank_stack {s : State} (hs : s.slot = .none) (hp : s.cfg.hasBanks = true) (hbo : s.bo = true) :
    execResbank s = s.popBank.done 2 := by
  simp [execResbank, State.outsideSlot_none hs, State.withBanks_present hp, hbo]

/-- A pop of the `k`-th longword above `a`. -/
theorem State.popInto_nth {s : State} {a : Word} (put : State → Word → State) (k : Nat)
    (h : s.sp = a + BitVec.ofNat 32 (4 * k)) (hc : s.canAccess 4 (a + BitVec.ofNat 32 (4 * k)) = true) :
    s.popInto put = (put s (s.peek32 (a + BitVec.ofNat 32 (4 * k)))).setReg 15 (a + BitVec.ofNat 32 (4 * (k + 1))) := by
  have up : a + BitVec.ofNat 32 (4 * k) + 4 = a + BitVec.ofNat 32 (4 * (k + 1)) := by
    rw [BitVec.add_assoc, Nat.mul_succ, BitVec.ofNat_add]
    rfl
  rw [State.popInto_ok put h hc, up]

/-- The restore from nineteen readable longwords: R0 to R14, PR, GBR, MACH and MACL, R15 above them (R54, R485). -/
theorem State.popBank_ok {s : State}
    (hc : ∀ k : Nat, k < 19 → s.canAccess 4 (s.reg 15 + BitVec.ofNat 32 (4 * k)) = true) :
    ∃ r : Vector Word 16, s.popBank = { s with
        regs := r, pr := s.peek32 (s.reg 15 + 60), gbr := s.peek32 (s.reg 15 + 64),
        mach := s.peek32 (s.reg 15 + 68), macl := s.peek32 (s.reg 15 + 72) } ∧
      r[15] = s.reg 15 + 76 ∧
      ∀ (k : Nat) (_ : k < 15), r[k] = s.peek32 (s.reg 15 + BitVec.ofNat 32 (4 * k)) := by
  obtain ⟨r, hpop, htop, hlow⟩ := s.popList_range 15 (le_refl 15) (fun k hk => hc k (by omega))
  refine ⟨(((r.set 15 (s.reg 15 + 64)).set 15 (s.reg 15 + 68)).set 15 (s.reg 15 + 72)).set 15 (s.reg 15 + 76), ?_,
    by simp, fun k hk => ?_⟩
  · rw [State.popBank, hpop,
      State.popInto_nth (s := { s with regs := r }) (a := s.reg 15) _ 15 htop (hc 15 (by omega)),
      State.popInto_nth (s := State.setReg _ 15 _) (a := s.reg 15) _ 16 (State.reg_setReg_same _ _ _) ?gbr,
      State.popInto_nth (s := State.setReg _ 15 _) (a := s.reg 15) _ 17 (State.reg_setReg_same _ _ _) ?mach,
      State.popInto_nth (s := State.setReg _ 15 _) (a := s.reg 15) _ 18 (State.reg_setReg_same _ _ _) ?macl]
    case gbr => exact hc 16 (by omega)
    case mach => exact hc 17 (by omega)
    case macl => exact hc 18 (by omega)
    rfl
  · simp [show 15 ≠ k by omega, hlow k hk, hk]

/-- Settles O24: RESBANK by BO and BN; LDBANK and STBANK through the entry that the bank address names. -/
theorem bank_instructions : Obligations.bank_instructions := by
  unfold Obligations.bank_instructions
  refine ⟨fun s => ⟨rfl, fun hh hs hp => ⟨fun hbo hbn => execResbank_underflow hs hp hbo hbn,
    fun b hbo hbn hb => ?bank, fun hbo hc => ?stack⟩⟩, fun m s => ⟨rfl, fun hh hp k e b he hb hk hm => ?load⟩,
    fun n s => ⟨rfl, fun hh hp k e b he hb hk hn => ?store⟩⟩
  case bank =>
    refine ⟨_, execResbank_bank hh hs hp hbo hbn hb, rfl, rfl, fun k hk => State.restoreBank_reg _ b k hk, rfl,
      rfl, rfl, rfl, rfl, SameSpecials.of_unsaved rfl rfl rfl rfl, fun _ _ => rfl, ⟨rfl, rfl, rfl, rfl⟩, rfl, rfl, rfl,
      hh, rfl, rfl, rfl, rfl, rfl, fun a ha => ?_, fun a ha => State.peek_ibnrLow ha⟩
    refine State.peek_congr ?_ ?_ ?_ ?_ ?_ ha <;> rfl
  case stack =>
    obtain ⟨r, hpop, htop, hlow⟩ := State.popBank_ok hc
    refine ⟨_, (execResbank_stack hs hp hbo).trans (State.done_goto ?_ ?_ 2), ?_⟩ <;> rw [hpop]
    · exact hh
    · exact hs
    · refine ⟨⟨rfl, rfl⟩, htop, ?_, rfl, rfl, rfl, rfl, SameSpecials.of_unsaved rfl rfl rfl rfl, fun _ _ => rfl,
        ⟨rfl, rfl, rfl, rfl⟩, rfl, rfl, rfl, hh, rfl, fun _ => rfl⟩
      intro k hk
      rw [← hlow k hk]
      interval_cases k <;> rfl
  case load =>
    have hlength : k < s.banks.length := (List.getElem?_eq_some_iff.mp hb).1
    have hload : execLdbank m s = s.putReg 2 0 b[e] := by
      simp [execLdbank, State.withBanks_present hp, hm, State.bankEntry?_some s k e he hlength hk,
        State.bankAt_some hb]
    exact hload.trans (State.done_after (s := s.setReg 0 b[e]) hh 2)
  case store =>
    have hlength : k < s.banks.length := (List.getElem?_eq_some_iff.mp hb).1
    have hstore : execStbank n s = State.done { s with banks := s.banks.set k (b.set e (s.reg 0)) } 2 := by
      simp [execStbank, State.withBanks_present hp, hn, State.bankEntry?_some s k e he hlength hk,
        State.bankAt_some hb]
    rw [← State.done_after (s := { s with banks := s.banks.set k (b.set e (s.reg 0)) }) hh]
    exact hstore

end Sys2Proof.Machine

/-! ### Exception entry: what its pushes and its bank save leave alone -/

namespace Sys2Proof.Machine

open Sys2Proof

/-- What a longword write can change. -/
theorem State.poke32_frame (s : State) (a v : Word) : ∃ m c e o,
    s.poke32 a v = { s with mem := m, ibcr := c, ibnrBe := e, ibnrBove := o } := by
  obtain ⟨_, _, _, _, h0⟩ := s.poke_frame a (byteOf v 0)
  obtain ⟨_, _, _, _, h1⟩ := (s.poke a (byteOf v 0)).poke_frame (a + 1) (byteOf v 1)
  obtain ⟨_, _, _, _, h2⟩ := ((s.poke a (byteOf v 0)).poke (a + 1) (byteOf v 1)).poke_frame (a + 2) (byteOf v 2)
  obtain ⟨m, c, e, o, h3⟩ := (((s.poke a (byteOf v 0)).poke (a + 1) (byteOf v 1)).poke (a + 2) (byteOf v 2)).poke_frame
    (a + 3) (byteOf v 3)
  exact ⟨m, c, e, o, by rw [State.poke32, h3, h2, h1, h0]⟩

/-- What a faulting stack write can change: memory, the bank registers in it, and the open values drawn (R727). -/
theorem State.scramble_frame (s : State) (a : Word) : ∃ m c e o k,
    s.scramble a = { s with mem := m, ibcr := c, ibnrBe := e, ibnrBove := o, freeCount := k } := by
  unfold State.scramble
  simp only
  obtain ⟨_, _, _, _, hlow⟩ := s.poke32_frame (alignDown a) s.open32
  split
  · exact ⟨_, _, _, _, _, by rw [hlow, State.drawn]⟩
  · rw [hlow]
    obtain ⟨_, _, _, _, hhigh⟩ :=
      State.poke32_frame (State.drawn _ 1) (alignDown a + 4) (State.open32 (State.drawn _ 1))
    exact ⟨_, _, _, _, _, by rw [hhigh, State.drawn, State.drawn]⟩

/-- What a push of an exception entry can change, whether or not it faults (R716, R727). -/
theorem State.entryPush_frame (s : State) (v : Word) : ∃ m c e o k h, s.entryPush v =
    { s.setReg 15 (s.sp - 4) with mem := m, ibcr := c, ibnrBe := e, ibnrBove := o, freeCount := k, held := h } := by
  unfold State.entryPush
  simp only
  split
  · obtain ⟨m, c, e, o, h⟩ := (s.setReg 15 (s.sp - 4)).poke32_frame (s.sp - 4) v
    exact ⟨m, c, e, o, _, _, h⟩
  · obtain ⟨m, c, e, o, k, h⟩ := (s.setReg 15 (s.sp - 4)).scramble_frame (s.sp - 4)
    exact ⟨m, c, e, o, k, true, by rw [h, State.addressError]⟩

/-- Two pushes move R15 by eight and keep every other register. -/
theorem State.entryPush_twice_frame (s : State) (v w : Word) : ∃ m c e o k h, (s.entryPush v).entryPush w =
    { s.setReg 15 (s.sp - 4 - 4) with
      mem := m, ibcr := c, ibnrBe := e, ibnrBove := o, freeCount := k, held := h } := by
  obtain ⟨_, _, _, _, _, _, h1⟩ := s.entryPush_frame v
  obtain ⟨m, c, e, o, k, h, h2⟩ := (s.entryPush v).entryPush_frame w
  refine ⟨m, c, e, o, k, h, ?_⟩
  rw [h2, h1]
  simp only [State.setReg, State.sp, State.reg, Vector.set_set, BitVec.reduceToNat, Vector.getElem_set_self]

/-- Two pushes that are allowed raise nothing. -/
theorem State.entryPush_twice_held {s : State} (v w : Word) (h1 : s.canAccess 4 (s.sp - 4) = true)
    (h2 : s.canAccess 4 (s.sp - 4 - 4) = true) : ((s.entryPush v).entryPush w).held = s.held := by
  have hsp := State.sp_entryPush_ok v h1
  have hc : (s.entryPush v).canAccess 4 ((s.entryPush v).sp - 4) = true := by
    rw [State.canAccess_entryPush_ok v h1, hsp]; exact h2
  rw [State.entryPush_ok w hc, State.entryPush_ok v h1]
  simp

/-- An entry whose vector may be read: both pushes and the bank save, IMASK, and control at the handler (R716, R762). -/
theorem State.enterOnce_vector {s : State} {e : Exc} (h : s.canAccess 4 (s.vbr + e.vector <<< 2) = true)
    (saved : Word) (l : BitVec 4) (bank : BankSave) : s.enterOnce e saved (some l) bank =
      { (((s.entryPush s.sr).entryPush saved).saveBank (e.vector <<< 2) bank).setImask l with
        pc := s.peek32 (s.vbr + e.vector <<< 2), slot := .none, power := .run } := by
  simp only [State.enterOnce, State.load32_ok h]

/-- An entry that raises no error of its own keeps what was held before (R727, D24). -/
theorem State.enter_quiet {s : State} {e : Exc} {saved : Word} {mask : Option (BitVec 4)} {bank : BankSave}
    (he : e ≠ .cpuAddressError) (h : (State.enterOnce { s with held := false } e saved mask bank).held = false) :
    s.enter e saved mask bank = { State.enterOnce { s with held := false } e saved mask bank with held := s.held } := by
  simp only [State.enter, he, if_false, h, Bool.false_eq_true]

/-! ### SR after an entry -/

theorem State.imask_setImask (s : State) (l : BitVec 4) : (s.setImask l).imask = l := by
  simp only [State.imask, State.setImask_sr]
  ext i hi
  interval_cases i <;> simp
theorem State.bo_setImask (s : State) (l : BitVec 4) : (s.setImask l).bo = s.bo := by
  simp [State.bo]
theorem State.bo_setBo (s : State) (b : Bool) : (s.setBo b).bo = b := by
  cases b <;> simp [State.bo, withBit]

/-! ### The bank save -/

theorem State.bankImage_reg (s : State) (vto : Word) (k : Nat) (h : k < 15) :
    (s.bankImage vto)[k] = s.reg (BitVec.ofNat 4 k) := by
  interval_cases k <;> rfl

/-- R15 is not saved. -/
theorem State.bankImage_setReg15 (s : State) (x vto : Word) : (s.setReg 15 x).bankImage vto = s.bankImage vto := by
  simp [State.bankImage, State.reg_setReg]

/-- A vector number's offset in the vector table. -/
theorem vector_offset (v : BitVec 9) : (Exc.interrupt v).vector <<< 2 = v.setWidth 32 * 4 := by
  show v.setWidth 32 <<< 2 = v.setWidth 32 * 4
  apply BitVec.eq_of_toNat_eq
  simp [Nat.shiftLeft_eq]

/-- An entry with a bank save whose accesses are allowed: nothing but R15, SR's IMASK, the saving bank, BN, memory and
control is touched (R51, R716, R762). -/
theorem State.enter_toBank {s : State} {v : BitVec 9} (h : s.entryAllowed (.interrupt v)) (saved : Word)
    (l : BitVec 4) : ∃ m c e o k, s.enter (.interrupt v) saved (some l) .toBank =
      State.setImask { s.setReg 15 (s.reg 15 - 8) with
        mem := m, ibcr := c, ibnrBe := e, ibnrBove := o, freeCount := k
        banks := s.banks.set s.bn (s.bankImage (v.setWidth 32 * 4)), bn := s.bn + 1,
        pc := s.peek32 (s.vbr + (Exc.interrupt v).vector <<< 2), slot := .none, power := .run } l := by
  obtain ⟨hvector, hsr, hpc⟩ := h
  have hdown : s.reg 15 - 4 - 4 = s.reg 15 - 8 := by bv_omega
  have hheld := State.entryPush_twice_held (s := { s with held := false }) s.sr saved hsr (hdown ▸ hpc)
  obtain ⟨m, c, e, o, k, held, hpush⟩ := State.entryPush_twice_frame { s with held := false } s.sr saved
  have htop : State.sp { s with held := false } - 4 - 4 = s.reg 15 - 8 := hdown
  rw [htop] at hpush
  rw [hpush] at hheld
  have honce := State.enterOnce_vector (s := { s with held := false }) hvector saved l .toBank
  rw [hpush] at honce
  refine ⟨m, c, e, o, k, ?_⟩
  rw [State.enter_quiet (by simp) (by rw [honce]; exact hheld), honce, ← vector_offset,
    ← State.bankImage_setReg15 s (s.reg 15 - 8)]
  rfl

/-- After such a save a RESBANK gives every saved register back (R485). -/
theorem execResbank_bankImage {s u : State} {vto : Word} (hh : u.held = false) (hs : u.slot = .none)
    (hp : u.cfg.hasBanks = true) (hbo : u.bo = false) (hbn : u.bn = s.bn + 1)
    (hb : u.banks[s.bn]? = some (s.bankImage vto)) : ∃ w, exec .resbank u = .next w ∧ w.bn = s.bn ∧
      (∀ k : GReg, k ≠ 15 → w.reg k = s.reg k) ∧ w.gbr = s.gbr ∧ w.mach = s.mach ∧ w.macl = s.macl ∧ w.pr = s.pr := by
  have hrun := execResbank_bank (b := s.bankImage vto) hh hs hp hbo (by omega) (by rw [hbn]; exact hb)
  refine ⟨_, hrun, by simp [hbn, State.restoreBank], fun k hk => ?_, rfl, rfl, rfl, rfl⟩
  have hlt : k.toNat < 15 := by bv_omega
  have hreg := State.restoreBank_reg { u with bn := u.bn - 1 } (s.bankImage vto) k.toNat hlt
  rw [State.bankImage_reg _ _ _ hlt, BitVec.ofNat_toNat, BitVec.setWidth_eq] at hreg
  exact hreg

/-! ### The stack save -/

/-- The bytes of a range are those less than its size above its first address. -/
theorem outside_range_iff (a first : Word) (size : Nat) :
    (∀ k : Nat, k < size → a ≠ first + BitVec.ofNat 32 k) ↔ size ≤ (a - first).toNat := by
  constructor
  · intro h
    by_contra hlt
    exact h (a - first).toNat (by omega) (by rw [BitVec.ofNat_toNat, BitVec.setWidth_eq]; bv_omega)
  · rintro h k hk rfl
    have : (first + BitVec.ofNat 32 k - first).toNat = k % 2 ^ 32 := by bv_omega
    omega

/-- In a plain range each byte is memory. -/
theorem State.plain_iff (s : State) (first : Word) (size : Nat) :
    s.plain first size ↔ ∀ a : Word, (a - first).toNat < size → bankByteAt s.cfg a = none := by
  constructor
  · intro h a ha
    have hk := h (a - first).toNat ha
    rwa [BitVec.ofNat_toNat, BitVec.setWidth_eq, show first + (a - first) = a by bv_omega] at hk
  · intro h k hk
    refine h _ ?_
    have : (first + BitVec.ofNat 32 k - first).toNat = k % 2 ^ 32 := by bv_omega
    omega

/-- A longword stored in memory: it reads back, and every other byte reads as before. -/
theorem State.poke32_plain {s : State} {a : Word} (v : Word) (hp : s.plain a 4) (hm : Memory.wf s.mem) :
    ∃ m, s.poke32 a v = { s with mem := m } ∧ Memory.wf m ∧ State.peek32 { s with mem := m } a = v ∧
      ∀ b : Word, 4 ≤ (b - a).toNat → State.peek { s with mem := m } b = s.peek b := by
  have h0 : bankByteAt s.cfg a = none := by simpa using hp 0 (by decide)
  have h1 : bankByteAt s.cfg (a + 1) = none := hp 1 (by decide)
  have h2 : bankByteAt s.cfg (a + 2) = none := hp 2 (by decide)
  have h3 : bankByteAt s.cfg (a + 3) = none := hp 3 (by decide)
  obtain ⟨m, hpoke⟩ : ∃ m, s.poke32 a v = { s with mem := m } := by
    refine ⟨(s.poke32 a v).mem, ?_⟩
    simp only [State.poke32, State.poke, h0, h1, h2, h3]
  have hwf := s.poke32_wf a v hm
  have hsame := s.peek32_poke32_same a v h0 h1 h2 h3 hm
  have hother (b : Word) (hb : 4 ≤ (b - a).toNat) := s.peek_poke32_other a b v (by rintro rfl; simp at hb)
    (by rintro rfl; bv_omega) (by rintro rfl; bv_omega) (by rintro rfl; bv_omega) hm
  rw [hpoke] at hwf hsame hother
  exact ⟨m, hpoke, hwf, hsame, hother⟩

/-- A longword reads the same when its four bytes do. -/
theorem State.peek32_congr {s t : State} {a : Word} (h : ∀ b : Word, (b - a).toNat < 4 → t.peek b = s.peek b) :
    t.peek32 a = s.peek32 a := by
  simp only [State.peek32, h a (by simp), h (a + 1) (by bv_omega), h (a + 2) (by bv_omega), h (a + 3) (by bv_omega)]

/-- The address `k` longwords below R15. -/
def State.below (s : State) (k : Nat) : Word := s.sp - BitVec.ofNat 32 (4 * k)

/-- `t` is `s` with the longwords of a list pushed, one below the other: R15 and those longwords of memory differ,
nothing else. -/
structure Pushed (s t : State) (vs : List Word) : Prop where
  only : ∃ m, t = { s.setReg 15 (s.below vs.length) with mem := m }
  read : ∀ (k : Nat) (v : Word), vs[k]? = some v → t.peek32 (s.below (k + 1)) = v
  keep : ∀ a : Word, 4 * vs.length ≤ (a - s.below vs.length).toNat → t.peek a = s.peek a

theorem Pushed.cfg {s t : State} {vs : List Word} (h : Pushed s t vs) : t.cfg = s.cfg := by
  obtain ⟨m, ht⟩ := h.only
  rw [ht]; rfl
theorem Pushed.held {s t : State} {vs : List Word} (h : Pushed s t vs) : t.held = s.held := by
  obtain ⟨m, ht⟩ := h.only
  rw [ht]; rfl
theorem Pushed.sp {s t : State} {vs : List Word} (h : Pushed s t vs) : t.sp = s.below vs.length := by
  obtain ⟨m, ht⟩ := h.only
  rw [ht]; exact State.reg_setReg_same _ _ _
/-- Below the pushed longwords. -/
theorem Pushed.below {s t : State} {v : Word} (h : Pushed s t [v]) (k : Nat) : t.below k = s.below (k + 1) := by
  rw [State.below, h.sp]
  simp only [State.below, List.length_singleton]
  bv_omega

theorem Pushed.nil (s : State) : Pushed s s [] where
  only := ⟨s.mem, by simp [State.setReg, State.below, State.sp, State.reg]⟩
  read := fun k v h => by simp at h
  keep := fun _ _ => rfl

/-- One push on an aligned stack in plain memory. -/
theorem State.entryPush_pushed {s : State} (v : Word) (hsp : s.sp.toNat % 4 = 0) (hd : s.cfg.dataForbidden = [])
    (hm : Memory.wf s.mem) (hp : s.plain (s.sp - 4) 4) :
    Pushed s (s.entryPush v) [v] ∧ Memory.wf (s.entryPush v).mem := by
  have hc : s.canAccess 4 (s.sp - 4) = true := State.canAccess_unrestricted hd (by bv_omega)
  obtain ⟨m, hpush, hwf, hread, hkeep⟩ := State.poke32_plain (s := s.setReg 15 (s.sp - 4)) v hp hm
  rw [State.entryPush_ok v hc, hpush]
  refine ⟨⟨⟨m, rfl⟩, fun k w hk => ?_, hkeep⟩, hwf⟩
  obtain ⟨rfl, rfl⟩ : k = 0 ∧ v = w := by cases k <;> simp_all
  exact hread

/-- A push and then the pushes of a list are the pushes of the longer list. -/
theorem Pushed.cons {s t u : State} {v : Word} {vs : List Word} (h : Pushed s t [v]) (hs : Pushed t u vs)
    (hlen : 4 * (vs.length + 1) ≤ 2 ^ 32) : Pushed s u (v :: vs) := by
  obtain ⟨m, ht⟩ := h.only
  obtain ⟨m', hu⟩ := hs.only
  have hbelow := h.below
  refine ⟨⟨m', ?only⟩, fun k w hk => ?read, fun a ha => ?keep⟩
  case only =>
    rw [hu, hbelow, ht, List.length_cons]
    simp [State.setReg]
  case read =>
    cases k with
    | zero =>
      have hv : v = w := by simpa using hk
      rw [← hv, ← h.read 0 v rfl]
      refine State.peek32_congr fun b hb => hs.keep b ?_
      rw [hbelow]
      simp only [State.below] at hb ⊢
      bv_omega
    | succ k =>
      rw [← hbelow]
      exact hs.read k w (by simpa using hk)
  case keep =>
    simp only [List.length_cons, State.below] at ha
    rw [hs.keep a (by rw [hbelow]; simp only [State.below]; bv_omega)]
    exact h.keep a (by simp only [State.below, List.length_singleton]; bv_omega)

/-- Longwords pushed on an aligned stack in plain memory. -/
theorem State.entryPush_list (vs : List Word) : ∀ {s : State}, s.sp.toNat % 4 = 0 → s.cfg.dataForbidden = [] →
    Memory.wf s.mem → 4 * vs.length ≤ 2 ^ 32 → s.plain (s.below vs.length) (4 * vs.length) →
    Pushed s (vs.foldl State.entryPush s) vs := by
  induction vs with
  | nil => exact fun {s} _ _ _ _ _ => Pushed.nil s
  | cons v vs ih =>
    intro s hsp hd hm hlen hplain
    rw [List.length_cons] at hlen
    rw [State.plain_iff, List.length_cons] at hplain
    have hplain4 : s.plain (s.sp - 4) 4 :=
      (State.plain_iff _ _ _).mpr fun a ha => hplain a (by simp only [State.below]; bv_omega)
    obtain ⟨hfirst, hwf⟩ := State.entryPush_pushed v hsp hd hm hplain4
    refine hfirst.cons (ih ?aligned (hfirst.cfg ▸ hd) hwf (by omega) ?plain) hlen
    case aligned =>
      rw [hfirst.sp]
      simp only [State.below, List.length_singleton]
      bv_omega
    case plain =>
      rw [State.plain_iff, hfirst.cfg, hfirst.below]
      exact fun a ha => hplain a (by omega)

/-- The registers of the stack save, first pushed first (R54). -/
def State.stackImage (s : State) : List Word :=
  [s.macl, s.mach, s.gbr, s.pr, s.reg 14, s.reg 13, s.reg 12, s.reg 11, s.reg 10, s.reg 9, s.reg 8, s.reg 7, s.reg 6,
    s.reg 5, s.reg 4, s.reg 3, s.reg 2, s.reg 1, s.reg 0]

theorem State.entryPushBank_eq (s : State) : s.entryPushBank = s.stackImage.foldl State.entryPush s := rfl

theorem State.stackImage_setReg15 (s : State) (x : Word) : (s.setReg 15 x).stackImage = s.stackImage := by
  simp [State.stackImage, State.reg_setReg]

/-- R0 to R14 lie last in it, R0 the last. -/
theorem State.stackImage_reg (s : State) (k : Nat) (h : k < 15) :
    s.stackImage[18 - k]? = some (s.reg (BitVec.ofNat 4 k)) := by
  interval_cases k <;> rfl

/-- The frame of an entry with a stack save: SR and the saved pc, then the registers (R54, R717). -/
theorem State.entryPush_entryPushBank (s : State) (v w : Word) :
    ((s.entryPush v).entryPush w).entryPushBank = (v :: w :: s.stackImage).foldl State.entryPush s := by
  obtain ⟨_, _, _, _, _, _, hpush⟩ := s.entryPush_twice_frame v w
  have himage : ((s.entryPush v).entryPush w).stackImage = s.stackImage := by
    rw [hpush]
    exact s.stackImage_setReg15 _
  rw [State.entryPushBank_eq, himage, List.foldl_cons, List.foldl_cons]

theorem aligned_iff (a : Word) : a &&& 3 = 0 ↔ a.toNat % 4 = 0 := by
  have hmask : (a &&& 3).toNat = a.toNat % 4 := Nat.and_two_pow_sub_one_eq_mod a.toNat 2
  rw [← hmask, ← BitVec.toNat_inj]
  rfl

/-- The sequence of R716 with a stack save, on an aligned stack in plain memory: the pushes, BO, IMASK and control. -/
theorem State.enterOnce_toStack {s : State} {v : BitVec 9} (hsp : s.reg 15 &&& 3 = 0) (hvbr : s.vbr &&& 3 = 0)
    (hd : s.cfg.dataForbidden = []) (hm : Memory.wf s.mem) (hp : s.plain (s.reg 15 - 84) 84) (saved : Word)
    (l : BitVec 4) : ∃ u, Pushed s u (s.sr :: saved :: s.stackImage) ∧
      s.enterOnce (.interrupt v) saved (some l) .toStack =
        { (u.setBo true).setImask l with
          pc := s.peek32 (s.vbr + v.setWidth 32 * 4), slot := .none, power := .run } := by
  rw [aligned_iff] at hsp hvbr
  have hvector : s.canAccess 4 (s.vbr + (Exc.interrupt v).vector <<< 2) = true :=
    State.canAccess_unrestricted hd (by rw [vector_offset]; bv_omega)
  refine ⟨_, State.entryPush_list _ hsp hd hm (by simp [State.stackImage]) hp, ?_⟩
  rw [State.enterOnce_vector hvector, State.saveBank, State.entryPush_entryPushBank, vector_offset]

/-- The entry raises nothing, so what was held stays held (R54, R762). -/
theorem State.enter_toStack {s : State} {v : BitVec 9} (hsp : s.reg 15 &&& 3 = 0) (hvbr : s.vbr &&& 3 = 0)
    (hd : s.cfg.dataForbidden = []) (hm : Memory.wf s.mem) (hp : s.plain (s.reg 15 - 84) 84) (saved : Word)
    (l : BitVec 4) : ∃ u, Pushed { s with held := false } u (s.sr :: saved :: s.stackImage) ∧
      s.enter (.interrupt v) saved (some l) .toStack =
        { (u.setBo true).setImask l with
          pc := s.peek32 (s.vbr + v.setWidth 32 * 4), slot := .none, power := .run, held := s.held } := by
  obtain ⟨u, hpushed, honce⟩ :=
    State.enterOnce_toStack (s := { s with held := false }) (v := v) hsp hvbr hd hm hp saved l
  refine ⟨u, hpushed, ?_⟩
  rw [State.enter_quiet (by simp) (by rw [honce]; exact hpushed.held), honce]
  rfl

/-- Settles O58: the bank save and RESBANK after it, then the stack save longword by longword. -/
theorem bank_save_and_restore : Obligations.bank_save_and_restore := by
  unfold Obligations.bank_save_and_restore
  refine ⟨fun s v saved l t hallowed hfree ht => ?bank, fun s v saved l t hsp hvbr hd hm hp ht => ?stack⟩
  case bank =>
    obtain ⟨m, c, e, o, k, henter⟩ := State.enter_toBank hallowed saved l
    rw [henter] at ht
    have hbank : t.banks[s.bn]? = some (s.bankImage (v.setWidth 32 * 4)) := by
      rw [ht]
      exact List.getElem?_set_self hfree
    refine ⟨by rw [ht]; rfl, by rw [ht]; exact List.length_set, fun j hj => ?_,
      ⟨_, hbank, fun j hj => s.bankImage_reg _ j hj, rfl, rfl, rfl, rfl, rfl⟩, fun j hj => ?_, fun x _ => ?_, ?_, ?_,
      fun u hbanks hbn hbo hs hh hbk => ?_⟩
    · rw [ht]
      exact List.getElem?_set_ne hj.symm
    · rw [ht]
      exact State.reg_setReg_other s 15 j _ (by simpa using hj)
    · rw [ht]
      cases x <;> rfl
    · rw [ht, State.bo_setImask]
      rfl
    · rw [ht, State.imask_setImask]
    · have hu : u.bn = s.bn + 1 := by rw [hbn, ht]; rfl
      exact execResbank_bankImage hh hs hbk hbo hu (hbanks ▸ hbank)
  case stack =>
    obtain ⟨u, hpushed, henter⟩ := State.enter_toStack (v := v) hsp hvbr hd hm hp saved l
    rw [henter] at ht
    have hpeek (a : Word) : t.peek a = u.peek a := by rw [ht]; rfl
    have hpeek32 (a : Word) : t.peek32 a = u.peek32 a := State.peek32_congr fun b _ => hpeek b
    have hread (k : Nat) (w : Word) (h : (s.sr :: saved :: s.stackImage)[k]? = some w) (a : Word)
        (ha : a = s.reg 15 - BitVec.ofNat 32 (4 * (k + 1))) : t.peek32 a = w := by
      rw [hpeek32, ha]
      exact hpushed.read k w h
    obtain ⟨m, honly⟩ := hpushed.only
    refine ⟨?sp, ?bo, ?imask, ?banks, by rw [ht], hread 0 _ rfl _ rfl, hread 1 _ rfl _ rfl, hread 2 _ rfl _ rfl,
      hread 3 _ rfl _ rfl, hread 4 _ rfl _ rfl, hread 5 _ rfl _ rfl, fun k hk => ?regs, fun a ha => ?outside,
      fun j hj => ?others, fun x _ => ?specials⟩
    case sp => rw [ht]; exact hpushed.sp
    case bo => rw [ht]; exact (State.bo_setImask _ _).trans (State.bo_setBo _ _)
    case imask => rw [ht]; exact State.imask_setImask _ _
    case banks => rw [ht, honly]; exact ⟨rfl, rfl⟩
    case regs =>
      refine hread (20 - k) _ ?_ _ ?_
      · rw [show 20 - k = 18 - k + 1 + 1 by omega]
        exact s.stackImage_reg k hk
      · have : 20 - k + 1 + k = 21 := by omega
        bv_omega
    case outside =>
      rw [hpeek]
      exact hpushed.keep a ((outside_range_iff _ _ _).mp ha)
    case others =>
      rw [ht, honly]
      exact State.reg_setReg_other s 15 j _ (by simpa using hj)
    case specials =>
      rw [ht, honly]
      cases x <;> rfl

end Sys2Proof.Machine

/-! ### Which instructions write VBR, TBR, SR, FPSCR and the power state -/

namespace Sys2Proof.Machine

open Sys2Proof

/-- What an instruction may do to FPSCR. -/
inductive FpscrWrite where
  /-- FPSCR stays. -/
  | nothing
  /-- SZ may be inverted (R583). -/
  | size
  /-- Cause may be written, and Flag bits set (R505). -/
  | results
  /-- Any value (R45). -/
  | all

/-- The values of FPSCR that such a write may leave. -/
def FpscrWrite.Allows : FpscrWrite → Word → Word → Prop
  | .nothing, a, b => b = a
  | .size, a, b => b = a ∨ b = a ^^^ 0x00100000
  | .results, a, b => ∃ r : Word, r &&& ~~~0x0003F07C = 0 ∧ b = (a &&& ~~~0x0003F000) ||| r
  | .all, _, _ => True

/-- What an instruction may change of the control state. -/
structure Writes where
  vbr : Bool := false
  tbr : Bool := false
  /-- All of SR, or single bits of it. -/
  sr : Bool := false
  t : Bool := false
  q : Bool := false
  m : Bool := false
  cs : Bool := false
  fpscr : FpscrWrite := .nothing
  sleeps : Bool := false

/-- The control state that an instruction may change, as the rules of its writers list it (R28 to R37, R44, R45). -/
def writesOf : Instr → Writes
  | .ldcSr _ | .ldcLSr _ | .rte => { sr := true }
  | .ldcVbr _ | .ldcLVbr _ => { vbr := true }
  | .ldcTbr _ => { tbr := true }
  | .div0s _ _ | .div0u => { t := true, q := true, m := true }
  | .div1 _ _ => { t := true, q := true }
  | .clipsB _ | .clipsW _ | .clipuB _ | .clipuW _ => { cs := true }
  | .sleep => { sleeps := true }
  | .ldsFpscr _ | .ldsLFpscr _ => { fpscr := .all }
  | .fschg => { fpscr := .size }
  | i => { t := i.writesT, fpscr := if i.fpArithmetic then .results else .nothing }

/-- The bits of SR that may change (R27). -/
def Writes.status (w : Writes) : Word :=
  if w.sr then BitVec.allOnes 32
  else (if w.t then 0x0001 else 0) ||| (if w.q then 0x0100 else 0) ||| (if w.m then 0x0200 else 0) |||
    (if w.cs then 0x2000 else 0)

/-- Each bit of it. -/
theorem Writes.status_getLsbD (w : Writes) {i : Nat} (hi : i < 32) : w.status.getLsbD i =
    (w.sr || (w.t && i == 0) || (w.q && i == 8) || (w.m && i == 9) || (w.cs && i == 13)) := by
  have hbit (b : Bool) (k : Word) : (if b then k else 0).getLsbD i = (b && k.getLsbD i) := by cases b <;> simp
  unfold Writes.status
  cases w.sr
  · simp only [Bool.false_eq_true, if_false, BitVec.getLsbD_or, hbit, Bool.false_or]
    interval_cases i <;> simp
  · rw [if_pos rfl, BitVec.getLsbD_allOnes]
    simp [hi]

/-- The state that the rules of writers speak of, without the power state. -/
structure Guarded where
  cfg : Platform
  fpuStopped : Bool
  inputs : List Inputs
  outside : List Outside
  bankCount : Nat
  vbr : Word
  tbr : Word
  sr : Word
  fpscr : Word

/-- That part of a state. -/
def State.guarded (s : State) : Guarded :=
  ⟨s.cfg, s.fpuStopped, s.inputs, s.outside, s.banks.length, s.vbr, s.tbr, s.sr, s.fpscr⟩

/-- From `s` to `t` the guarded state changes only as `w` allows. -/
structure Changes (w : Writes) (s t : State) : Prop where
  platform : SamePlatform s t
  count : t.banks.length = s.banks.length
  vbr : w.vbr = false → t.vbr = s.vbr
  tbr : w.tbr = false → t.tbr = s.tbr
  status : SameStatus s t w.status
  fpscr : w.fpscr.Allows s.fpscr t.fpscr
  power : w.sleeps = false → s.power = .run → t.power = .run

theorem FpscrWrite.allows_refl (w : FpscrWrite) (a : Word) : w.Allows a a := by
  cases w with
  | nothing => exact rfl
  | size => exact .inl rfl
  | results =>
    refine ⟨a &&& 0x0003F000, ?_, ?_⟩
    · rw [outside_iff]
      intro i h
      have hcause : (0x0003F000 : Word).getLsbD i = true := by
        rw [BitVec.getLsbD_and] at h
        exact (Bool.and_eq_true_iff.mp h).2
      exact (outside_iff 0x0003F000 0x0003F07C).mp (by decide) i hcause
    · ext i hi
      simp only [BitVec.getElem_or, BitVec.getElem_and, BitVec.getElem_not]
      cases a[i] <;> simp
  | all => trivial

theorem Changes.refl (w : Writes) (s : State) : Changes w s s :=
  ⟨⟨rfl, rfl, rfl, rfl⟩, rfl, fun _ => rfl, fun _ => rfl, rfl, w.fpscr.allows_refl _, fun _ h => h⟩

/-- A write of one bit of SR is seen in that bit alone. -/
theorem withBit_outside {w m : Word} {k : Nat} (b : Bool) (hk : m.getLsbD k = true) :
    withBit w k b &&& ~~~m = w &&& ~~~m := by
  ext i hi
  by_cases h : i = k
  · subst h
    simp [← BitVec.getLsbD_eq_getElem, hk]
  · have hbit : (1#32 <<< k)[i] = false := by
      rw [BitVec.getElem_shiftLeft]
      by_cases hik : i < k
      · simp [hik]
      · simp [show i - k ≠ 0 by omega]
    unfold withBit
    cases b <;> simp [hbit]

section Chain

variable {w : Writes} {s t : State} (h : Changes w s t)
include h

/-- An operation that leaves the guarded state alone, and does not end program execution. -/
theorem Changes.same {u : State} (hg : u.guarded = t.guarded) (hp : t.power = .run → u.power = .run) :
    Changes w s u := by
  obtain ⟨⟨hcfg, hstopped, hinputs, houtside⟩, hcount, hvbr, htbr, hsr, hfpscr, hpower⟩ := h
  simp only [State.guarded, Guarded.mk.injEq] at hg
  obtain ⟨gcfg, gstopped, ginputs, goutside, gcount, gvbr, gtbr, gsr, gfpscr⟩ := hg
  exact ⟨⟨gcfg.trans hcfg, gstopped.trans hstopped, ginputs.trans hinputs, goutside.trans houtside⟩,
    gcount.trans hcount, fun x => gvbr.trans (hvbr x), fun x => gtbr.trans (htbr x), by rw [SameStatus, gsr]; exact hsr,
    gfpscr ▸ hfpscr, fun x hs => hp (hpower x hs)⟩

/-! Registers. -/

theorem Changes.setReg (n : GReg) (v : Word) : Changes w s (t.setReg n v) := h.same rfl id
theorem Changes.setFreg (n : FReg) (v : Word) : Changes w s (t.setFreg n v) := h.same rfl id
theorem Changes.setDreg (n : DReg) (v : Quad) : Changes w s (t.setDreg n v) := h.same rfl id
theorem Changes.setGbr (v : Word) : Changes w s (t.setGbr v) := h.same rfl id
theorem Changes.setMach (v : Word) : Changes w s (t.setMach v) := h.same rfl id
theorem Changes.setMacl (v : Word) : Changes w s (t.setMacl v) := h.same rfl id
theorem Changes.setPr (v : Word) : Changes w s (t.setPr v) := h.same rfl id
theorem Changes.link (v : Word) : Changes w s (t.link v) := h.same rfl id
theorem Changes.setMac (v : Quad) : Changes w s (t.setMac v) := h.same rfl id
theorem Changes.setFpul (v : Word) : Changes w s (t.setFpul v) := h.same rfl id
theorem Changes.drawn (k : Nat) : Changes w s (t.drawn k) := h.same rfl id
theorem Changes.addressError : Changes w s t.addressError := h.same rfl id
theorem Changes.goto (a : Word) : Changes w s (t.goto a) := h.same rfl id
theorem Changes.delayTo (a : Word) : Changes w s (t.delayTo a) := h.same rfl id
theorem Changes.delayNone : Changes w s t.delayNone := h.same rfl id
theorem Changes.restoreBank (b : Bank) : Changes w s (t.restoreBank b) := h.same rfl id
theorem Changes.macAdvance (m n : GReg) (size : Word) : Changes w s (t.macAdvance m n size) := h.same rfl id
theorem Changes.setListReg (k : Nat) (v : Word) : Changes w s (t.setListReg k v) := by
  unfold State.setListReg
  split
  · exact h.setPr v
  · exact h.setReg _ v

/-! The registers that have writers of their own. -/

theorem Changes.setVbr (hw : w.vbr = true) (v : Word) : Changes w s (t.setVbr v) where
  platform := h.platform
  count := h.count
  vbr := fun x => by simp [hw] at x
  tbr := h.tbr
  status := h.status
  fpscr := h.fpscr
  power := h.power
theorem Changes.setTbr (hw : w.tbr = true) (v : Word) : Changes w s (t.setTbr v) where
  platform := h.platform
  count := h.count
  vbr := h.vbr
  tbr := fun x => by simp [hw] at x
  status := h.status
  fpscr := h.fpscr
  power := h.power
theorem Changes.setFpscr (hw : w.fpscr = .all) (v : Word) : Changes w s (t.setFpscr v) where
  platform := h.platform
  count := h.count
  vbr := h.vbr
  tbr := h.tbr
  status := h.status
  fpscr := by rw [hw]; trivial
  power := h.power
/-- A write of SR in bits that may change. -/
theorem Changes.withSr {v : Word} (hv : v &&& ~~~w.status = t.sr &&& ~~~w.status) : Changes w s { t with sr := v } where
  platform := h.platform
  count := h.count
  vbr := h.vbr
  tbr := h.tbr
  status := hv.trans h.status
  fpscr := h.fpscr
  power := h.power
theorem Changes.setSr (hw : w.sr = true) (v : Word) : Changes w s (t.setSr v) :=
  h.withSr (by simp [Writes.status, hw])
theorem Changes.setT (hw : w.t = true) (b : Bool) : Changes w s (t.setT b) :=
  h.withSr (withBit_outside b ((w.status_getLsbD (by decide)).trans (by simp [hw])))
theorem Changes.setQ (hw : w.q = true) (b : Bool) : Changes w s (t.setQ b) :=
  h.withSr (withBit_outside b ((w.status_getLsbD (by decide)).trans (by simp [hw])))
theorem Changes.setM (hw : w.m = true) (b : Bool) : Changes w s (t.setM b) :=
  h.withSr (withBit_outside b ((w.status_getLsbD (by decide)).trans (by simp [hw])))
theorem Changes.setCs (hw : w.cs = true) (b : Bool) : Changes w s (t.setCs b) :=
  h.withSr (withBit_outside b ((w.status_getLsbD (by decide)).trans (by simp [hw])))

/-! Memory. -/

theorem Changes.poke (a : Word) (v : Byte) : Changes w s (t.poke a v) := by
  obtain ⟨_, _, _, _, hpoke⟩ := t.poke_frame a v
  rw [hpoke]
  exact h.same rfl id
theorem Changes.poke16 (a : Word) (v : Half) : Changes w s (t.poke16 a v) := (h.poke _ _).poke _ _
theorem Changes.poke32 (a : Word) (v : Word) : Changes w s (t.poke32 a v) :=
  (((h.poke _ _).poke _ _).poke _ _).poke _ _
theorem Changes.poke64 (a : Word) (v : Quad) : Changes w s (t.poke64 a v) := (h.poke32 _ _).poke32 _ _
theorem Changes.store8 (a : Word) (v : Byte) : Changes w s (t.store8 a v) := by
  unfold State.store8
  split
  · exact h.poke a v
  · exact h.addressError
theorem Changes.store16 (a : Word) (v : Half) : Changes w s (t.store16 a v) := by
  unfold State.store16
  split
  · exact h.poke16 a v
  · exact h.addressError
theorem Changes.store32 (a : Word) (v : Word) : Changes w s (t.store32 a v) := by
  unfold State.store32
  split
  · exact h.poke32 a v
  · exact h.addressError
theorem Changes.store64 (a : Word) (v : Quad) : Changes w s (t.store64 a v) := by
  unfold State.store64
  split
  · exact h.poke64 a v
  · exact h.addressError
theorem Changes.deliver (v : Option Word) : Changes w s (t.deliver v).2 := by
  cases v with
  | none => exact (h.drawn 1).addressError
  | some v => exact h
theorem Changes.deliver64 (v : Option Quad) : Changes w s (t.deliver64 v).2 := by
  cases v with
  | none => exact (h.drawn 2).addressError
  | some v => exact h
theorem Changes.load32 (a : Word) : Changes w s (t.load32 a).2 := h.deliver _
theorem Changes.load64 (a : Word) : Changes w s (t.load64 a).2 := h.deliver64 _
theorem Changes.load8s (a : Word) : Changes w s (t.load8s a).2 := h.deliver _
theorem Changes.load16s (a : Word) : Changes w s (t.load16s a).2 := h.deliver _
theorem Changes.load8u (a : Word) : Changes w s (t.load8u a).2 := h.deliver _
theorem Changes.load16u (a : Word) : Changes w s (t.load16u a).2 := h.deliver _
theorem Changes.modifyByte (a : Word) (f : Byte → Byte) : Changes w s (t.modifyByte a f) := by
  unfold State.modifyByte
  split
  · exact h.store8 a _
  · exact h.addressError
theorem Changes.testByte (hw : w.t = true) (a : Word) (f : Byte → Bool) :
    Changes w s (t.testByte a f) := by
  unfold State.testByte
  split
  · exact h.setT hw _
  · exact h.addressError
theorem Changes.storeControl (n : GReg) (v : Word) : Changes w s (t.storeControl n v) := (h.store32 _ _).setReg _ _

/-! Exceptions and the end of an instruction. -/

theorem Changes.entryPush (v : Word) : Changes w s (t.entryPush v) := by
  obtain ⟨_, _, _, _, _, _, hpush⟩ := t.entryPush_frame v
  rw [hpush]
  exact h.same rfl id
/-- Control at the handler, program running. -/
theorem Changes.atHandler (a : Word) : Changes w s { t with pc := a, slot := .none, power := .run } :=
  h.same rfl (fun _ => rfl)
/-- An exception that sets no IMASK and saves no bank leaves the guarded state alone (R718). -/
theorem Changes.enterOnce (e : Exc) (saved : Word) : Changes w s (t.enterOnce e saved none .nowhere) :=
  (((h.load32 (t.vbr + e.vector <<< 2)).entryPush t.sr).entryPush saved).atHandler _
theorem Changes.withHeld (b : Bool) : Changes w s { t with held := b } := h.same rfl id
theorem Changes.raise (e : Exc) (saved : Word) : Changes w s (t.raise e saved) := by
  have honce := (h.withHeld false).enterOnce e saved
  unfold State.raise State.enter
  simp only
  split
  · exact honce.withHeld _
  · split
    · exact ((honce.withHeld _).enterOnce _ _).withHeld _
    · exact honce.withHeld _
theorem Changes.acceptHeld : Changes w s t.acceptHeld := by
  unfold State.acceptHeld
  split
  · exact h.raise _ _
  · exact h
theorem Changes.complete (len : Word) : Changes w s (t.complete len) := (h.goto _).acceptHeld
theorem Changes.jump (a : Word) : Changes w s (t.jump a) := (h.goto a).acceptHeld
theorem Changes.illegal (len : Word) : Changes w s (t.illegal len) := by
  unfold State.illegal
  split <;> exact h.raise _ _

end Chain

/-! ### Answers -/

/-- Every next state of an answer changes the guarded state only as `w` allows. -/
def Within (w : Writes) (s : State) (r : Res) : Prop := ∀ t, r = .next t → Changes w s t

section Answers

variable {w : Writes} {s t : State}

theorem Within.fault (f : Fault) : Within w s (.fault f) := fun _ hu => by cases hu
theorem Within.ite {c : Prop} [Decidable c] {r q : Res} (hr : Within w s r) (hq : Within w s q) :
    Within w s (if c then r else q) := by
  split
  · exact hr
  · exact hq

variable (h : Changes w s t)
include h

theorem Changes.next : Within w s (.next t) := fun u hu => by cases hu; exact h
theorem Changes.done (len : Word) : Within w s (t.done len) := (h.complete len).next
theorem Changes.putReg (len : Word) (n : GReg) (v : Word) : Within w s (t.putReg len n v) := (h.setReg n v).done len
theorem Changes.outsideSlot (len : Word) {r : Res} (hr : Within w s r) : Within w s (t.outsideSlot len r) :=
  hr.ite (h.illegal len).next
theorem Changes.withFpu (len : Word) {r : Res} (hr : Within w s r) : Within w s (t.withFpu len r) :=
  hr.ite (h.illegal len).next
theorem Changes.withBanks {r : Res} (hr : Within w s r) : Within w s (t.withBanks r) := hr.ite (h.illegal 2).next
theorem Changes.withPrecision (b : Bool) {r : Res} (hr : Within w s r) : Within w s (t.withPrecision b r) :=
  hr.ite (h.illegal 2).next
theorem Changes.fpuTrap : Within w s t.fpuTrap := ((h.complete 2).raise _ _).next

/-! Shapes of the families. -/

theorem Changes.clipSigned (hw : w.cs = true) (n : GReg) (low high : Word) :
    Changes w s (t.clipSigned n low high) := by
  unfold State.clipSigned
  split
  · exact (h.setReg n high).setCs hw true
  · split
    · exact (h.setReg n low).setCs hw true
    · exact h
theorem Changes.clipUnsigned (hw : w.cs = true) (n : GReg) (high : Word) :
    Changes w s (t.clipUnsigned n high) := by
  unfold State.clipUnsigned
  split
  · exact (h.setReg n high).setCs hw true
  · exact h
/-- A load of a control register, by the register's own writing. -/
theorem Changes.loadControl (m : GReg) {put : State → Word → State}
    (hput : ∀ {u : State}, Changes w s u → ∀ v, Changes w s (put u v)) : Changes w s (t.loadControl m put) :=
  (hput (h.load32 _) _).setReg _ _
theorem Changes.popInto {put : State → Word → State}
    (hput : ∀ {u : State}, Changes w s u → ∀ v, Changes w s (put u v)) : Changes w s (t.popInto put) :=
  (hput (h.load32 _) _).setReg _ _
theorem Changes.setBank (k : Nat) (b : Bank) : Changes w s { t with banks := t.banks.set k b } := by
  refine h.same ?_ id
  simp only [State.guarded, List.length_set]
theorem Changes.freeBank : Changes w s { t with bn := t.bn - 1 } := h.same rfl id
theorem Changes.returnFromException (hw : w.sr = true) : Changes w s t.returnFromException :=
  ((((h.load32 t.sp).setReg 15 _).load32 _).setReg 15 _ |>.setSr hw _).delayTo _

end Answers

section Lists

variable {w : Writes} {s : State}

theorem Changes.pushList (l : List Nat) : ∀ {t : State}, Changes w s t → Changes w s (t.pushList l) := by
  induction l with
  | nil => exact fun h => h
  | cons k rest ih => exact fun h => ih ((h.store32 _ _).setReg _ _)
theorem Changes.popList (l : List Nat) : ∀ {t : State}, Changes w s t → Changes w s (t.popList l) := by
  induction l with
  | nil => exact fun h => h
  | cons k rest ih => exact fun h => ih (((h.load32 _).setListReg k _).setReg _ _)
theorem Changes.popBank {t : State} (h : Changes w s t) : Changes w s t.popBank :=
  (((((Changes.popList _ h).popInto Changes.setPr).popInto Changes.setGbr).popInto Changes.setMach).popInto
    Changes.setMacl)

end Lists

theorem Changes.loadPostInc {w : Writes} {s : State} {r : Word × State} (h : Changes w s r.2) (m n : GReg)
    (size : Word) : Within w s (loadPostInc m n size r) := by
  have ht := h.setReg n r.1
  unfold Machine.loadPostInc
  simp only
  split
  · exact ht.done 2
  · exact (ht.setReg _ _).done 2

end Sys2Proof.Machine

/-! ### What floating-point results raise -/

namespace Sys2Proof.Machine

open Sys2Proof

/-- What a line of the tables of results may say (R507, R511). -/
inductive FpResult.Line : FpResult → Prop where
  | exact (x : Nat) : Line (.exact x)
  | unstated : Line .unstated
  | fpuError : Line .fpuError
  | invalid (f : Fmt) (env : FpEnv) : Line (.invalid f env)
  | divideByZero (f : Fmt) (env : FpEnv) (neg : Bool) : Line (.divideByZero f env neg)
  | truncation (env : FpEnv) (neg : Bool) : Line (ftrcInvalid env neg)
  | computed (f : Fmt) (toZero trap : Bool) (x : Exact) : Line (finish f toZero trap x)

/-- A line raises Cause and Flag bits only (R505). -/
theorem FpResult.Line.raised {r : FpResult} (h : r.Line) : r.raised &&& ~~~0x0003F07C = 0 := by
  cases h with
  | exact | unstated => exact (by decide : (0 : Word) &&& ~~~0x0003F07C = 0)
  | fpuError => exact (by decide : raiseE &&& ~~~0x0003F07C = 0)
  | invalid | truncation => exact (by decide : raiseV &&& ~~~0x0003F07C = 0)
  | divideByZero => exact (by decide : raiseZ &&& ~~~0x0003F07C = 0)
  | computed f toZero trap x =>
    show (finishValue f toZero x).1 &&& ~~~0x0003F07C = 0
    rcases finishValue_raised f toZero x with h | h | h | h <;> rw [h] <;> decide

theorem fpAdd_line (f : Fmt) (env : FpEnv) (a b : Nat) : (fpAdd f env a b).Line := by
  unfold fpAdd
  repeat' split
  all_goals constructor
theorem fpSub_line (f : Fmt) (env : FpEnv) (a b : Nat) : (fpSub f env a b).Line := fpAdd_line f env a (f.negate b)
theorem fpMul_line (f : Fmt) (env : FpEnv) (a b : Nat) : (fpMul f env a b).Line := by
  unfold fpMul
  simp only
  split <;> constructor
theorem fpDiv_line (f : Fmt) (env : FpEnv) (a b : Nat) : (fpDiv f env a b).Line := by
  unfold fpDiv
  simp only
  split <;> constructor
theorem fpMac_line (env : FpEnv) (c b a : Nat) : (fpMac env c b a).Line := by
  unfold fpMac
  simp only
  repeat' split
  all_goals constructor
theorem fpSqrt_line (f : Fmt) (env : FpEnv) (a : Nat) : (fpSqrt f env a).Line := by
  unfold fpSqrt
  split <;> constructor
theorem fpDoubleToSingle_line (env : FpEnv) (a : Nat) : (fpDoubleToSingle env a).Line := by
  unfold fpDoubleToSingle
  split
  · exact .invalid .single env
  · exact .exact _
  · exact .exact _
  · exact .computed _ _ _ _
  · exact .computed _ _ _ _
  · exact .unstated
theorem fpSingleToDouble_line (env : FpEnv) (a : Nat) : (fpSingleToDouble env a).Line := by
  unfold fpSingleToDouble
  split
  · exact .invalid .double env
  all_goals exact .exact _
theorem fpFloatSingle_line (env : FpEnv) (k : Int) : (fpFloatSingle env k).Line := .computed _ _ _ _
theorem fpFloatDouble_line (env : FpEnv) (k : Int) : (fpFloatDouble env k).Line := .computed _ _ _ _
theorem fpTruncSingle_line (env : FpEnv) (h : Nat) : (fpTruncSingle env h).Line := by
  unfold fpTruncSingle
  simp only
  repeat' split
  all_goals constructor
theorem fpTruncDouble_line (env : FpEnv) (h : Nat) : (fpTruncDouble env h).Line := by
  unfold fpTruncDouble
  simp only
  repeat' split
  all_goals constructor

section Results

variable {w : Writes} {s : State} (hw : w.fpscr = .results)
include hw

/-- Writing Cause and Flag. -/
theorem Changes.fpRaise {raised : Word} (hr : raised &&& ~~~0x0003F07C = 0) : Changes w s (s.fpRaise raised) where
  platform := ⟨rfl, rfl, rfl, rfl⟩
  count := rfl
  vbr := fun _ => rfl
  tbr := fun _ => rfl
  status := rfl
  fpscr := by rw [hw]; exact ⟨raised, hr, rfl⟩
  power := fun _ h => h

theorem Changes.fpDeliver32 {r : FpResult} (hr : r.Line) {put : State → Word → State}
    (hput : ∀ {u : State}, Changes w s u → ∀ v, Changes w s (put u v)) : Within w s (s.fpDeliver32 r put) := by
  have ht : Changes w s (s.fpRaise r.raised) := Changes.fpRaise hw hr.raised
  unfold State.fpDeliver32
  simp only
  split
  · exact (hput ht _).done 2
  · exact ht.fpuTrap
  · exact (hput (ht.drawn 1) _).done 2
theorem Changes.fpDeliver64 {r : FpResult} (hr : r.Line) {put : State → Quad → State}
    (hput : ∀ {u : State}, Changes w s u → ∀ v, Changes w s (put u v)) : Within w s (s.fpDeliver64 r put) := by
  have ht : Changes w s (s.fpRaise r.raised) := Changes.fpRaise hw hr.raised
  unfold State.fpDeliver64
  simp only
  split
  · exact (hput ht _).done 2
  · exact ht.fpuTrap
  · exact (hput (ht.drawn 2) _).done 2

theorem Changes.fpToFr (n : FReg) {r : FpResult} (hr : r.Line) : Within w s (s.fpToFr n r) :=
  (Changes.refl w s).withFpu 2 (Changes.fpDeliver32 hw hr (fun h v => h.setFreg n v))
theorem Changes.fpToDr (n : DReg) {r : FpResult} (hr : r.Line) : Within w s (s.fpToDr n r) :=
  (Changes.refl w s).withFpu 2 (Changes.fpDeliver64 hw hr (fun h v => h.setDreg n v))
theorem Changes.fpToFpul {r : FpResult} (hr : r.Line) : Within w s (s.fpToFpul r) :=
  (Changes.refl w s).withFpu 2 (Changes.fpDeliver32 hw hr Changes.setFpul)
theorem Changes.fpCompareT (ht : w.t = true) (rel want : FpRel) (b : Bool) :
    Within w s (s.fpCompareT rel want b) := by
  have hquiet : Changes w s (s.fpRaise 0) := Changes.fpRaise hw (by decide)
  have hinvalid : Changes w s (s.fpRaise raiseV) := Changes.fpRaise hw (by decide)
  exact (Changes.refl w s).withFpu 2 (.ite (.ite (hinvalid.setT ht _).fpuTrap ((hinvalid.setT ht _).done 2))
    ((hquiet.setT ht _).done 2))

end Results

/-! ### Instructions with several outcomes -/

section Several

variable {w : Writes} {s : State} (h : Changes w s s)
include h

theorem execDivs_within (n : GReg) : Within w s (execDivs n s) :=
  h.outsideSlot 2 ((h.raise _ _).next.ite ((h.raise _ _).next.ite (h.putReg _ _ _)))
theorem execDivu_within (n : GReg) : Within w s (execDivu n s) :=
  h.outsideSlot 2 ((h.raise _ _).next.ite (h.putReg _ _ _))
theorem execMacL_within (m n : GReg) : Within w s (execMacL m n s) := by
  have ht := h.macAdvance m n 4
  unfold execMacL
  split
  · exact (ht.setMac _).done 2
  · exact ht.addressError.done 2
theorem execMacW_within (m n : GReg) : Within w s (execMacW m n s) := by
  have ht := h.macAdvance m n 2
  unfold execMacW
  split
  · exact (ht.setMac _).done 2
  · exact ht.addressError.done 2
theorem execTasB_within (hw : w.t = true) (n : GReg) : Within w s (execTasB n s) := by
  unfold execTasB
  simp only
  split
  · exact ((h.setT hw _).store8 _ _).done 2
  · exact h.addressError.done 2
theorem execJsrNTbr_within (d : BitVec 8) : Within w s (execJsrNTbr d s) := by
  refine h.outsideSlot 2 ?_
  split
  · exact ((h.link _).jump _).next
  · exact (h.link _).addressError.done 2
theorem execResbank_within : Within w s (execResbank s) :=
  h.outsideSlot 2 (h.withBanks ((h.popBank.done 2).ite ((h.raise _ _).next.ite ((h.freeBank.restoreBank _).done 2))))
theorem execLdbank_within (m : GReg) : Within w s (execLdbank m s) := by
  refine h.withBanks ?_
  split
  · exact h.putReg _ _ _
  · exact .fault _
theorem execStbank_within (n : GReg) : Within w s (execStbank n s) := by
  refine h.withBanks ?_
  split
  · exact (h.setBank _ _).done 2
  · exact .fault _
theorem execSleep_within (hw : w.sleeps = true) : Within w s (execSleep s) := by
  have hlow : Changes w s { s with power := .lowPower } :=
    ⟨h.platform, h.count, h.vbr, h.tbr, h.status, h.fpscr, fun x => by simp [hw] at x⟩
  exact hlow.done 2
theorem execFschg_within (hw : w.fpscr = .size) : Within w s (execFschg s) := by
  have hsize : Changes w s { s with fpscr := s.fpscr ^^^ 0x00100000 } :=
    ⟨h.platform, h.count, h.vbr, h.tbr, h.status, by rw [hw]; exact .inr rfl, h.power⟩
  exact h.withFpu 2 (h.withPrecision false (hsize.done 2))

end Several

/-- Every instruction changes the guarded state only as the rules of writers say. -/
theorem exec_within (i : Instr) (s : State) : Within (writesOf i) s (exec i s) := by
  have h := Changes.refl (writesOf i) s
  cases i with
  -- A value, or a load, into a general register.
  | movImm | movReg | mova | movrt | movt | swapB | swapW | xtrct | add | addImm | neg | sub | extsB | extsW | extuB
  | extuW | mulr | andReg | andImm | notReg | orReg | orImm | xorReg | xorImm | shll2 | shll8 | shll16 | shlr2 | shlr8
  | shlr16 | shad | shld | stcSr | stcGbr | stcVbr | stcTbr | stsMach | stsMacl | stsPr | bclrReg | bsetReg | bstReg =>
    exact h.putReg _ _ _
  | movi20 | movi20s => exact h.outsideSlot _ (h.putReg _ _ _)
  | movBLoad | movBLoadDisp4 | movBLoadIdx | movBLoadGbr => exact (h.load8s _).putReg _ _ _
  | movWPcRel | movWLoad | movWLoadDisp4 | movWLoadIdx | movWLoadGbr => exact (h.load16s _).putReg _ _ _
  | movLPcRel | movLLoad | movLLoadDisp4 | movLLoadIdx | movLLoadGbr => exact (h.load32 _).putReg _ _ _
  | movBLoadPostInc => exact (h.load8s _).loadPostInc _ _ _
  | movWLoadPostInc => exact (h.load16s _).loadPostInc _ _ _
  | movLLoadPostInc => exact (h.load32 _).loadPostInc _ _ _
  | movBLoadPreDec => exact ((h.setReg _ _).load8s _).putReg _ _ _
  | movWLoadPreDec => exact ((h.setReg _ _).load16s _).putReg _ _ _
  | movLLoadPreDec => exact ((h.setReg _ _).load32 _).putReg _ _ _
  | movBLoadDisp12 => exact h.outsideSlot _ ((h.load8s _).putReg _ _ _)
  | movWLoadDisp12 => exact h.outsideSlot _ ((h.load16s _).putReg _ _ _)
  | movLLoadDisp12 => exact h.outsideSlot _ ((h.load32 _).putReg _ _ _)
  | movuBLoadDisp12 => exact h.outsideSlot _ ((h.load8u _).putReg _ _ _)
  | movuWLoadDisp12 => exact h.outsideSlot _ ((h.load16u _).putReg _ _ _)
  -- Stores.
  | movBStore | movBStoreDisp4 | movBStoreIdx | movBStoreGbr => exact (h.store8 _ _).done _
  | movWStore | movWStoreDisp4 | movWStoreIdx | movWStoreGbr => exact (h.store16 _ _).done _
  | movLStore | movLStoreDisp4 | movLStoreIdx | movLStoreGbr => exact (h.store32 _ _).done _
  | movBStorePreDec | movBStorePostInc => exact ((h.store8 _ _).setReg _ _).done _
  | movWStorePreDec | movWStorePostInc => exact ((h.store16 _ _).setReg _ _).done _
  | movLStorePreDec | movLStorePostInc => exact ((h.store32 _ _).setReg _ _).done _
  | movBStoreDisp12 => exact h.outsideSlot _ ((h.store8 _ _).done _)
  | movWStoreDisp12 => exact h.outsideSlot _ ((h.store16 _ _).done _)
  | movLStoreDisp12 => exact h.outsideSlot _ ((h.store32 _ _).done _)
  | movmlPush | movmuPush => exact (Changes.pushList _ h).done _
  | movmlPop | movmuPop => exact (Changes.popList _ h).done _
  -- T, the division flags and CS.
  | nott | cmpEqImm | cmpEq | cmpHs | cmpGe | cmpHi | cmpGt | cmpPl | cmpPz | cmpStr | tstReg | tstImm | clrt | sett
  | bldReg => exact (h.setT rfl _).done _
  | addc | addv | negc | subc | subv | dt | rotl | rotr | rotcl | rotcr | shal | shar | shll | shlr =>
    exact (h.setT rfl _).putReg _ _ _
  | div0s | div0u => exact (((h.setQ rfl _).setM rfl _).setT rfl _).done _
  | div1 => exact ((((h.setReg _ _).setReg _ _).setQ rfl _).setT rfl _).done _
  | clipsB | clipsW => exact (h.clipSigned rfl _ _ _).done _
  | clipuB | clipuW => exact (h.clipUnsigned rfl _ _).done _
  | divs n => exact execDivs_within h n
  | divu n => exact execDivu_within h n
  -- The accumulator.
  | dmulsL | dmuluL | clrmac => exact (h.setMac _).done _
  | mulL | mulsW | muluW => exact (h.setMacl _).done _
  | macL m n => exact execMacL_within h m n
  | macW m n => exact execMacW_within h m n
  -- Bytes and bits of memory.
  | andBGbr | orBGbr | xorBGbr => exact (h.modifyByte _ _).done _
  | tstBGbr => exact (h.testByte rfl _ _).done _
  | tasB n => exact execTasB_within h rfl n
  | bandB | bandnotB | borB | bornotB | bxorB | bldB | bldnotB =>
    exact h.outsideSlot _ ((h.testByte rfl _ _).done _)
  | bclrB | bsetB | bstB => exact h.outsideSlot _ ((h.modifyByte _ _).done _)
  -- Branches.
  | bf => exact h.outsideSlot _ ((h.done _).ite (h.jump _).next)
  | bt => exact h.outsideSlot _ ((h.jump _).next.ite (h.done _))
  | bfS => exact h.outsideSlot _ (h.delayNone.next.ite (h.delayTo _).next)
  | btS => exact h.outsideSlot _ ((h.delayTo _).next.ite h.delayNone.next)
  | bra | braf | jmp | rts => exact h.outsideSlot _ (h.delayTo _).next
  | bsr | bsrf | jsr => exact h.outsideSlot _ ((h.link (s.pc + 4)).delayTo _).next
  | jsrNTbr d => exact execJsrNTbr_within h d
  | jsrN => exact h.outsideSlot _ ((h.link _).jump _).next
  | rtsN => exact h.outsideSlot _ (h.jump _).next
  | rtvN => exact h.outsideSlot _ ((h.setReg _ _).jump _).next
  -- System control.
  | nop | pref => exact h.done _
  | ldcSr => exact (h.setSr rfl _).done _
  | ldcGbr => exact (h.setGbr _).done _
  | ldcVbr => exact (h.setVbr rfl _).done _
  | ldcTbr => exact (h.setTbr rfl _).done _
  | ldsMach => exact (h.setMach _).done _
  | ldsMacl => exact (h.setMacl _).done _
  | ldsPr => exact (h.setPr _).done _
  | ldcLSr => exact (h.loadControl _ (fun h' => h'.setSr rfl)).done _
  | ldcLGbr => exact (h.loadControl _ Changes.setGbr).done _
  | ldcLVbr => exact (h.loadControl _ (fun h' => h'.setVbr rfl)).done _
  | ldsLMach => exact (h.loadControl _ Changes.setMach).done _
  | ldsLMacl => exact (h.loadControl _ Changes.setMacl).done _
  | ldsLPr => exact (h.loadControl _ Changes.setPr).done _
  | stcLSr | stcLGbr | stcLVbr | stsLMach | stsLMacl | stsLPr => exact (h.storeControl _ _).done _
  | rte => exact h.outsideSlot _ (h.returnFromException rfl).next
  | sleep => exact execSleep_within h rfl
  | trapa => exact h.outsideSlot _ (h.raise _ _).next
  | resbank => exact execResbank_within h
  | ldbank m => exact execLdbank_within h m
  | stbank n => exact execStbank_within h n
  -- Floating-point arithmetic.
  | faddFR => exact Changes.fpToFr rfl _ (fpAdd_line _ _ _ _)
  | faddDR => exact Changes.fpToDr rfl _ (fpAdd_line _ _ _ _)
  | fsubFR => exact Changes.fpToFr rfl _ (fpSub_line _ _ _ _)
  | fsubDR => exact Changes.fpToDr rfl _ (fpSub_line _ _ _ _)
  | fmulFR => exact Changes.fpToFr rfl _ (fpMul_line _ _ _ _)
  | fmulDR => exact Changes.fpToDr rfl _ (fpMul_line _ _ _ _)
  | fdivFR => exact Changes.fpToFr rfl _ (fpDiv_line _ _ _ _)
  | fdivDR => exact Changes.fpToDr rfl _ (fpDiv_line _ _ _ _)
  | fmac => exact h.withFpu _ (h.withPrecision _ (Changes.fpToFr rfl _ (fpMac_line _ _ _ _)))
  | fsqrtFR => exact Changes.fpToFr rfl _ (fpSqrt_line _ _ _)
  | fsqrtDR => exact Changes.fpToDr rfl _ (fpSqrt_line _ _ _)
  | fcmpEqFR | fcmpEqDR | fcmpGtFR | fcmpGtDR => exact Changes.fpCompareT rfl rfl _ _ _
  | fcnvds => exact h.withFpu _ (h.withPrecision _ (Changes.fpToFpul rfl (fpDoubleToSingle_line _ _)))
  | fcnvsd => exact h.withFpu _ (h.withPrecision _ (Changes.fpToDr rfl _ (fpSingleToDouble_line _ _)))
  | floatFR => exact Changes.fpToFr rfl _ (fpFloatSingle_line _ _)
  | floatDR => exact Changes.fpToDr rfl _ (fpFloatDouble_line _ _)
  | ftrcFR => exact Changes.fpToFpul rfl (fpTruncSingle_line _ _)
  | ftrcDR => exact Changes.fpToFpul rfl (fpTruncDouble_line _ _)
  -- Floating-point transfers.
  | fabsFR | fabsDR | fnegFR | fnegDR | fmovFR | fsts => exact h.withFpu _ ((h.setFreg _ _).done _)
  | fmovDR => exact h.withFpu _ ((h.setDreg _ _).done _)
  | fldi0 | fldi1 => exact h.withFpu _ (h.withPrecision _ ((h.setFreg _ _).done _))
  | fmovSStore | fmovSStoreIdx => exact h.withFpu _ ((h.store32 _ _).done _)
  | fmovDStore | fmovDStoreIdx => exact h.withFpu _ ((h.store64 _ _).done _)
  | fmovSLoad | fmovSLoadIdx => exact h.withFpu _ (((h.load32 _).setFreg _ _).done _)
  | fmovDLoad | fmovDLoadIdx => exact h.withFpu _ (((h.load64 _).setDreg _ _).done _)
  | fmovSLoadPostInc => exact h.withFpu _ ((((h.load32 _).setFreg _ _).setReg _ _).done _)
  | fmovDLoadPostInc => exact h.withFpu _ ((((h.load64 _).setDreg _ _).setReg _ _).done _)
  | fmovSStorePreDec => exact h.withFpu _ (((h.store32 _ _).setReg _ _).done _)
  | fmovDStorePreDec => exact h.withFpu _ (((h.store64 _ _).setReg _ _).done _)
  | fmovSStoreDisp12 => exact h.withFpu _ (h.outsideSlot _ ((h.store32 _ _).done _))
  | fmovDStoreDisp12 => exact h.withFpu _ (h.outsideSlot _ ((h.store64 _ _).done _))
  | fmovSLoadDisp12 => exact h.withFpu _ (h.outsideSlot _ (((h.load32 _).setFreg _ _).done _))
  | fmovDLoadDisp12 => exact h.withFpu _ (h.outsideSlot _ (((h.load64 _).setDreg _ _).done _))
  | flds | ldsFpul => exact h.withFpu _ ((h.setFpul _).done _)
  | fschg => exact execFschg_within h rfl
  | ldsLFpul => exact h.withFpu _ ((h.loadControl _ Changes.setFpul).done _)
  | ldsFpscr => exact h.withFpu _ ((h.setFpscr rfl _).done _)
  | ldsLFpscr => exact h.withFpu _ ((h.loadControl _ (fun h' => h'.setFpscr rfl)).done _)
  | stsFpul | stsFpscr => exact h.withFpu _ (h.putReg _ _ _)
  | stsLFpul | stsLFpscr => exact h.withFpu _ ((h.storeControl _ _).done _)

/-! ### The writers -/

section Writers

variable {i : Instr}

theorem writesOf_vbr (h : (writesOf i).vbr = true) : ∃ m, i = .ldcVbr m ∨ i = .ldcLVbr m := by
  unfold writesOf at h
  split at h <;> simp_all
theorem writesOf_tbr (h : (writesOf i).tbr = true) : ∃ m, i = .ldcTbr m := by
  unfold writesOf at h
  split at h <;> simp_all
theorem writesOf_sr (h : (writesOf i).sr = true) : (∃ m, i = .ldcSr m ∨ i = .ldcLSr m) ∨ i = .rte := by
  unfold writesOf at h
  split at h <;> simp_all
theorem writesOf_t (h : (writesOf i).t = true) : i.writesT = true := by
  unfold writesOf at h
  split at h <;> exact h
theorem writesOf_q (h : (writesOf i).q = true) : (∃ m n, i = .div0s m n ∨ i = .div1 m n) ∨ i = .div0u := by
  unfold writesOf at h
  split at h <;> simp_all
theorem writesOf_m (h : (writesOf i).m = true) : (∃ m n, i = .div0s m n) ∨ i = .div0u := by
  unfold writesOf at h
  split at h <;> simp_all
theorem writesOf_cs (h : (writesOf i).cs = true) :
    ∃ n, i = .clipsB n ∨ i = .clipsW n ∨ i = .clipuB n ∨ i = .clipuW n := by
  unfold writesOf at h
  split at h <;> simp_all
theorem writesOf_sleeps (h : (writesOf i).sleeps = true) : i = .sleep := by
  unfold writesOf at h
  split at h <;> simp_all
theorem writesOf_fpscr_all (h : (writesOf i).fpscr = .all) : ∃ m, i = .ldsFpscr m ∨ i = .ldsLFpscr m := by
  unfold writesOf at h
  split at h <;> simp_all
  split at h <;> cases h
theorem writesOf_fpscr_size (h : (writesOf i).fpscr = .size) : i = .fschg := by
  unfold writesOf at h
  split at h <;> simp_all
  split at h <;> cases h
theorem writesOf_fpscr_results (h : (writesOf i).fpscr = .results) : i.fpArithmetic = true := by
  unfold writesOf at h
  split at h <;> simp_all

end Writers

/-- A bit of SR that may not change. -/
theorem Changes.status_bit {w : Writes} {s t : State} (h : Changes w s t) {k : Nat} (hk : k < 32)
    (hw : (w.sr || (w.t && k == 0) || (w.q && k == 8) || (w.m && k == 9) || (w.cs && k == 13)) = false) :
    t.sr.getLsbD k = s.sr.getLsbD k := by
  have hbit := congrArg (BitVec.getLsbD · k) h.status
  simpa [BitVec.getLsbD_and, BitVec.getLsbD_not, hk, ← BitVec.getLsbD_eq_getElem, w.status_getLsbD hk, hw] using hbit

/-- Settles O48: every instruction stays within its writers' rules, field by field. -/
theorem control_registers_writers : Obligations.control_registers_writers := by
  unfold Obligations.control_registers_writers
  intro i s t ht
  have h : Changes (writesOf i) s t := exec_within i s t ht
  refine ⟨h.platform, h.count, fun hi => h.vbr ?vbr, fun hi => h.tbr ?tbr, fun hi hrte => ?status,
    fun hrun hi => h.power ?power hrun⟩
  case vbr =>
    refine Bool.eq_false_iff.mpr fun hw => ?_
    obtain ⟨m, hm | hm⟩ := writesOf_vbr hw
    · exact (hi m).1 hm
    · exact (hi m).2 hm
  case tbr =>
    refine Bool.eq_false_iff.mpr fun hw => ?_
    obtain ⟨m, hm⟩ := writesOf_tbr hw
    exact hi m hm
  case power => exact Bool.eq_false_iff.mpr fun hw => hi (writesOf_sleeps hw)
  case status =>
    have hsr : (writesOf i).sr = false := by
      refine Bool.eq_false_iff.mpr fun hw => ?_
      obtain ⟨m, hm | hm⟩ | hm := writesOf_sr hw
      · exact (hi m).1 hm
      · exact (hi m).2 hm
      · exact hrte hm
    refine ⟨h.status_bit (by decide) (by simp [hsr]), h.status_bit (by decide) (by simp [hsr]), ?imask, fun hi => ?t,
      fun hi hu => ?q, fun hi hu => ?m, fun hi => ?cs⟩
    case imask =>
      unfold State.imask
      ext k hk
      have hbit : t.sr.getLsbD (4 + k) = s.sr.getLsbD (4 + k) :=
        h.status_bit (by omega) (by simp [hsr, show 4 + k ≠ 8 by omega, show 4 + k ≠ 9 by omega,
          show 4 + k ≠ 13 by omega])
      simpa using hbit
    case t =>
      have hw : (writesOf i).t = false := Bool.eq_false_iff.mpr fun hw => by simp [writesOf_t hw] at hi
      exact h.status_bit (by decide) (by simp [hsr, hw])
    case q =>
      have hw : (writesOf i).q = false := by
        refine Bool.eq_false_iff.mpr fun hw => ?_
        obtain ⟨m, n, hm | hm⟩ | hm := writesOf_q hw
        · exact (hi m n).1 hm
        · exact (hi m n).2 hm
        · exact hu hm
      exact h.status_bit (by decide) (by simp [hsr, hw])
    case m =>
      have hw : (writesOf i).m = false := by
        refine Bool.eq_false_iff.mpr fun hw => ?_
        obtain ⟨m, n, hm⟩ | hm := writesOf_m hw
        · exact hi m n hm
        · exact hu hm
      exact h.status_bit (by decide) (by simp [hsr, hw])
    case cs =>
      have hw : (writesOf i).cs = false := by
        refine Bool.eq_false_iff.mpr fun hw => ?_
        obtain ⟨n, hn⟩ := writesOf_cs hw
        obtain ⟨h1, h2, h3, h4⟩ := hi n
        simp_all
      exact h.status_bit (by decide) (by simp [hsr, hw])

/-- Short of a write of the whole, no Flag bit is cleared, and Enable, RM, DN, PR and QIS stay (R44, R505, R583). -/
theorem FpscrWrite.keeps {w : FpscrWrite} {a b : Word} (h : w.Allows a b) (hw : w ≠ .all) :
    a &&& 0x0000007C &&& ~~~b = 0 ∧ b &&& 0xFFEC0F83 = a &&& 0xFFEC0F83 := by
  have hself : a &&& 0x0000007C &&& ~~~a = 0 := by
    ext i hi
    simp +contextual
  cases w with
  | nothing =>
    subst h
    exact ⟨hself, rfl⟩
  | size =>
    obtain rfl | rfl := h
    · exact ⟨hself, rfl⟩
    · constructor <;> ext i hi <;> interval_cases i <;> simp
  | results =>
    obtain ⟨r, hr, rfl⟩ := h
    rw [outside_iff] at hr
    constructor <;> ext i hi
    · interval_cases i <;> simp +contextual
    · have hbit := hr i
      interval_cases i <;> simp_all
  | all => exact absurd rfl hw

/-- SZ is written with the whole, or inverted (R583). -/
theorem FpscrWrite.size_kept {w : FpscrWrite} {a b : Word} (h : w.Allows a b) (hw : w ≠ .all) (hs : w ≠ .size) :
    b.getLsbD 20 = a.getLsbD 20 := by
  cases w with
  | nothing => rw [h]
  | size => exact absurd rfl hs
  | results =>
    obtain ⟨r, hr, rfl⟩ := h
    have hbit := (outside_iff r _).mp hr 20
    simp_all
  | all => exact absurd rfl hw

/-- Settles O49: beside LDS and LDS.L, FPSCR is left alone, has SZ inverted or takes the bits of a result. -/
theorem fpscr_writers : Obligations.fpscr_writers := by
  unfold Obligations.fpscr_writers
  intro i s t ht hi
  have h : (writesOf i).fpscr.Allows s.fpscr t.fpscr := (exec_within i s t ht).fpscr
  have hall : (writesOf i).fpscr ≠ .all := by
    intro hw
    obtain ⟨m, hm | hm⟩ := writesOf_fpscr_all hw
    · exact (hi m).1 hm
    · exact (hi m).2 hm
  have hsize (hs : i ≠ .fschg) : (writesOf i).fpscr ≠ .size := fun hw => hs (writesOf_fpscr_size hw)
  obtain ⟨hflag, hkeep⟩ := FpscrWrite.keeps h hall
  refine ⟨hflag, hkeep, fun hs => FpscrWrite.size_kept h hall (hsize hs), fun hs ha => ?_⟩
  cases hw : (writesOf i).fpscr with
  | nothing =>
    rw [hw] at h
    exact h
  | size => exact absurd hw (hsize hs)
  | results => simp [writesOf_fpscr_results hw] at ha
  | all => exact absurd hw hall

end Sys2Proof.Machine

/-! ### Memory: the bytes of a store and what it leaves alone -/

namespace Sys2Proof.Machine

open Sys2Proof

/-- The byte appended last is the lowest. -/
theorem extract_lowest {n : Nat} (x : BitVec n) (b : Byte) : (x ++ b).extractLsb' 0 8 = b :=
  (extract_append_low x b 0 8 (by decide)).trans (extract_whole b)
/-- The bytes above it are those it was appended to. -/
theorem extract_upper {n : Nat} (x : BitVec n) (b : Byte) (i : Nat) :
    (x ++ b).extractLsb' (i + 8) 8 = x.extractLsb' i 8 :=
  extract_append_high x b (i + 8) 8 (by omega)

/-- The bytes of a longword in memory, most significant first (R82). -/
theorem State.peek32_bytes {s : State} {a v : Word} (h : s.peek32 a = v) :
    s.peek a = v.extractLsb' 24 8 ∧ s.peek (a + 1) = v.extractLsb' 16 8 ∧ s.peek (a + 2) = v.extractLsb' 8 8 ∧
      s.peek (a + 3) = v.extractLsb' 0 8 := by
  subst h
  rw [State.peek32]
  generalize s.peek a = b0, s.peek (a + 1) = b1, s.peek (a + 2) = b2, s.peek (a + 3) = b3
  have hupper := extract_upper (b0 ++ b1 ++ b2) b3
  have hmiddle := extract_upper (b0 ++ b1) b2
  have h0 := (hupper 16).trans ((hmiddle 8).trans ((extract_upper b0 b1 0).trans (extract_whole b0)))
  have h1 := (hupper 8).trans ((hmiddle 0).trans (extract_lowest b0 b1))
  have h2 := (hupper 0).trans (extract_lowest (b0 ++ b1) b2)
  exact ⟨h0.symm, h1.symm, h2.symm, (extract_lowest (b0 ++ b1 ++ b2) b3).symm⟩

/-- The words of a longword in memory, the high one first (R82). -/
theorem State.peek32_words {s : State} {a v : Word} (h : s.peek32 a = v) :
    s.peek16 a = v.extractLsb' 16 16 ∧ s.peek16 (a + 2) = v.extractLsb' 0 16 := by
  obtain ⟨h0, h1, h2, h3⟩ := State.peek32_bytes h
  have hnext : a + 2 + 1 = a + 3 := by bv_omega
  rw [State.peek16, State.peek16, hnext, h0, h1, h2, h3]
  exact ⟨extract_append_extract v 16 8 8, extract_append_extract v 0 8 8⟩

/-- A longword stored in memory reads back whole. -/
theorem State.peek32_poke32 {s : State} {a : Word} (v : Word) (hp : s.plain a 4) (hm : Memory.wf s.mem) :
    (s.poke32 a v).peek32 a = v := by
  obtain ⟨m, hpoke, -, hread, -⟩ := State.poke32_plain v hp hm
  rw [hpoke, hread]

/-- A longword stored in memory leaves every other byte. -/
theorem State.poke32_sameOutside {s : State} {a : Word} (v : Word) (hp : s.plain a 4) (hm : Memory.wf s.mem) :
    SameMemoryOutside s (s.poke32 a v) a 4 := by
  obtain ⟨m, hpoke, -, -, hkeep⟩ := State.poke32_plain v hp hm
  rw [hpoke]
  exact fun b hb => hkeep b ((outside_range_iff b a 4).mp hb)

/-- The bytes of a word stored in memory, the high byte first (R82). -/
theorem State.poke16_bytes {s : State} {a : Word} (v : Half) (hp : s.plain a 2) (hm : Memory.wf s.mem) :
    (s.poke16 a v).peek a = highByte v ∧ (s.poke16 a v).peek (a + 1) = lowByte v := by
  have hhigh : bankByteAt s.cfg a = none := by simpa using hp 0 (by decide)
  have hlow : bankByteAt (s.poke a (highByte v)).cfg (a + 1) = none := by simpa using hp 1 (by decide)
  have hm' := s.poke_wf a (highByte v) hm
  have hne : a ≠ a + 1 := by bv_omega
  constructor
  · rw [State.poke16, State.peek_poke_other _ _ _ _ hne hm', State.peek_poke_same _ _ _ hhigh hm]
  · rw [State.poke16, State.peek_poke_same _ _ _ hlow hm']

theorem highByte_append_lowByte (v : Half) : highByte v ++ lowByte v = v :=
  (extract_append_extract v 0 8 8).trans (extract_whole v)

/-- The two halves of plain quad memory are plain. -/
theorem State.plain_halves {s : State} {a : Word} (h : s.plain a 8) : s.plain a 4 ∧ s.plain (a + 4) 4 := by
  simp only [State.plain_iff] at h ⊢
  exact ⟨fun b hb => h b (by omega), fun b hb => h b (by bv_omega)⟩

/-- The longwords of a quad stored in memory, the high one at the lower address (R87). -/
theorem State.poke64_longwords {s : State} {a : Word} (v : Quad) (hp : s.plain a 8) (hm : Memory.wf s.mem) :
    (s.poke64 a v).peek32 a = highWord v ∧ (s.poke64 a v).peek32 (a + 4) = lowWord v := by
  obtain ⟨hhigh, hlow⟩ := State.plain_halves hp
  have hm' := s.poke32_wf a (highWord v) hm
  have hlow' : (s.poke32 a (highWord v)).plain (a + 4) 4 := by simpa [State.plain] using hlow
  refine ⟨?high, State.peek32_poke32 (lowWord v) hlow' hm'⟩
  have hkept : (s.poke64 a v).peek32 a = (s.poke32 a (highWord v)).peek32 a :=
    State.peek32_congr fun b hb => State.poke32_sameOutside (lowWord v) hlow' hm' b
      ((outside_range_iff b (a + 4) 4).mpr (by bv_omega))
  rw [hkept, State.peek32_poke32 (highWord v) hhigh hm]

theorem AddressRange.holds_iff (r : AddressRange) (a : Word) :
    r.holds a = true ↔ r.first.toNat ≤ a.toNat ∧ a.toNat ≤ r.last.toNat := by
  simp [AddressRange.holds, BitVec.ule]

/-- An access is allowed on its boundary outside every forbidden range (R84, R86). -/
theorem State.canAccess_iff (s : State) (n : Nat) (a : Word) : s.canAccess n a = true ↔
    a.toNat % n = 0 ∧ ∀ r ∈ s.cfg.dataForbidden, ¬(r.first.toNat ≤ a.toNat ∧ a.toNat ≤ r.last.toNat) := by
  simp only [← AddressRange.holds_iff]
  simp [State.canAccess]

/-- Settles O55: a longword and a word by their bytes, a quad by its two longwords, and the check of an access. -/
theorem memory_access : Obligations.memory_access := by
  unfold Obligations.memory_access
  refine ⟨?longword, ?word, ?quad, ?byte, fun s a n _ => s.canAccess_iff n a⟩
  case longword =>
    rintro s a v t hm hp rfl
    have hread := State.peek32_poke32 v hp hm
    obtain ⟨h0, h1, h2, h3⟩ := State.peek32_bytes hread
    obtain ⟨hhigh, hlow⟩ := State.peek32_words hread
    exact ⟨h0, h1, h2, h3, hhigh, hlow, hread, State.poke32_sameOutside v hp hm⟩
  case word =>
    rintro s a v t hm hp rfl
    obtain ⟨hhigh, hlow⟩ := State.poke16_bytes v hp hm
    refine ⟨hhigh, hlow, ?_, fun b hb => s.peek_poke16_other a b v ?_ (hb 1 (by decide)) hm⟩
    · rw [State.peek16, hhigh, hlow, highByte_append_lowByte]
    · simpa using hb 0 (by decide)
  case quad =>
    rintro s a v t hm hp rfl
    obtain ⟨hhigh, hlow⟩ := State.poke64_longwords v hp hm
    refine ⟨hhigh, hlow, ?_, fun b hb => s.peek_poke64_other a b v hb hm⟩
    rw [State.peek64, hhigh, hlow, highWord_append_lowWord]
  case byte =>
    rintro s a v t hm hp rfl
    have hplain : bankByteAt s.cfg a = none := by simpa using hp 0 (by decide)
    refine ⟨s.peek_poke_same a v hplain hm, fun b hb => s.peek_poke_other a b v ?_ hm⟩
    simpa using hb 0 (by decide)

end Sys2Proof.Machine

/-! ### Fetch: undefined codes and address errors -/

namespace Sys2Proof.Machine

open Sys2Proof

/-! ### What a fetch gives -/

/-- A sixteen-bit code that no row assigns (R140). -/
theorem State.fetch_undefined16 {s : State} {w : Half} (hpc : s.canFetch s.pc = true) (hshort : s.longAtPc = false)
    (hdecode : decode s.fpMode (s.unitAt s.pc ++ s.unitAt (s.pc + 2)) = .undefined16 w) : s.fetch = .undefined 2 := by
  rw [State.fetch, hpc, hshort, hdecode]
  rfl

/-- A 32-bit code whose second code unit may be fetched and that no row assigns (R126). -/
theorem State.fetch_undefined32 {s : State} {v w : Half} (hpc : s.canFetch s.pc = true)
    (hsecond : s.canFetch (s.pc + 2) = true)
    (hdecode : decode s.fpMode (s.unitAt s.pc ++ s.unitAt (s.pc + 2)) = .undefined32 v w) :
    s.fetch = .undefined 4 := by
  have hlong : (s.longAtPc && !s.canFetch (s.pc + 2)) = false := by rw [hsecond, Bool.not_true, Bool.and_false]
  rw [State.fetch, hpc, hlong, hdecode]
  rfl

/-- A code unit of the instruction lies where nothing may be fetched (R90). -/
theorem State.fetch_addressError {s : State}
    (h : s.canFetch s.pc = false ∨ (s.longAtPc = true ∧ s.canFetch (s.pc + 2) = false)) :
    s.fetch = .addressError := by
  unfold State.fetch
  obtain hfirst | ⟨hlong, hsecond⟩ := h
  · simp [hfirst]
  · have hbad : (s.longAtPc && !s.canFetch (s.pc + 2)) = true := by rw [hlong, hsecond]; rfl
    rw [hbad]
    split <;> rfl

theorem State.runInstruction_undefined {s : State} {len : Word} (h : s.fetch = .undefined len) :
    s.runInstruction = .next (s.illegal len) := by
  simp [State.runInstruction, h]
theorem State.runInstruction_addressError {s : State} (h : s.fetch = .addressError) :
    s.runInstruction = .next s.fetchError := by
  simp [State.runInstruction, h]

/-! ### The exceptions of an undefined code, by the slot -/

theorem State.illegal_none {s : State} (h : s.slot = .none) (len : Word) :
    s.illegal len = s.raise .generalIllegal s.pc := by
  simp [State.illegal, h]
theorem State.illegal_taken {s : State} {target : Word} (h : s.slot = .taken target) (len : Word) :
    s.illegal len = s.raise .slotIllegal target := by
  simp [State.illegal, h]
theorem State.illegal_untaken {s : State} (h : s.slot = .untaken) (len : Word) :
    s.illegal len = s.raise .slotIllegal (s.pc + len) := by
  simp [State.illegal, h]

/-! ### An exception entry does not read PC or the slot -/

section Goto

variable (s : State) (target a : Word)

theorem State.poke_goto (v : Byte) : (s.goto target).poke a v = (s.poke a v).goto target := by
  unfold State.poke
  rw [State.goto_cfg]
  split <;> rfl
theorem State.poke32_goto (v : Word) : (s.goto target).poke32 a v = (s.poke32 a v).goto target := by
  simp only [State.poke32, State.poke_goto]
theorem State.load32_goto :
    (s.goto target).load32 a = ((s.load32 a).1, (s.load32 a).2.goto target) := by
  cases h : s.canAccess 4 a
  · rw [State.load32_bad h, State.load32_bad (s := s.goto target) h]
    rfl
  · rw [State.load32_ok h, State.load32_ok (s := s.goto target) h]
    rfl
theorem State.scramble_goto : (s.goto target).scramble a = (s.scramble a).goto target := by
  have hdrawn (t : State) : (t.goto target).drawn 1 = (t.drawn 1).goto target := rfl
  have hopen (t : State) : (t.goto target).open32 = t.open32 := rfl
  simp only [State.scramble, State.poke32_goto, hdrawn, hopen]
  split <;> rfl
theorem State.entryPush_goto (v : Word) : (s.goto target).entryPush v = (s.entryPush v).goto target := by
  have hset (w : Word) : (s.goto target).setReg 15 w = (s.setReg 15 w).goto target := rfl
  have hsp : (s.goto target).sp = s.sp := rfl
  have hcheck (t : State) : (t.goto target).canAccess 4 (s.sp - 4) = t.canAccess 4 (s.sp - 4) := rfl
  simp only [State.entryPush, hset, hsp, hcheck, State.poke32_goto, State.scramble_goto]
  split <;> rfl

/-- The entry ends at the handler, outside a slot, wherever control stood before (R716). -/
theorem State.enterOnce_goto (e : Exc) (saved : Word) :
    (s.goto target).enterOnce e saved none .nowhere = s.enterOnce e saved none .nowhere := by
  simp only [State.enterOnce, State.goto_vbr, State.goto_sr, State.load32_goto, State.entryPush_goto, State.saveBank]
  generalize ((s.load32 (s.vbr + e.vector <<< 2)).2.entryPush s.sr).entryPush saved = t
  rfl
theorem State.raise_goto (e : Exc) (saved : Word) : (s.goto target).raise e saved = s.raise e saved := by
  have hheld : ({ s.goto target with held := false } : State) = State.goto { s with held := false } target := rfl
  simp only [State.raise, State.enter, hheld, State.enterOnce_goto, State.goto_held]

end Goto

/-- The address error of a fetch in the slot of a taken branch saves the branch target (R750). -/
theorem State.fetchError_taken {s : State} {target : Word} (h : s.slot = .taken target) :
    s.fetchError = s.raise .cpuAddressError target := by
  rw [← s.raise_goto target]
  simp [State.fetchError, h]
/-- Elsewhere it saves the address of the fetch (R724). -/
theorem State.fetchError_other {s : State} (h : ∀ target, s.slot ≠ .taken target) :
    s.fetchError = s.raise .cpuAddressError s.pc := by
  unfold State.fetchError
  split
  · exact absurd ‹_› (h _)
  · rfl

/-- A running machine with nothing held or signalled executes, in a slot or out of one. -/
theorem State.event_run {s : State} (hi : s.inputs = []) (hh : s.held = false) (hp : s.power = .run) :
    s.event = .execute s := by
  by_cases hslot : ∃ target, s.slot = .taken target
  · obtain ⟨target, htaken⟩ := hslot
    exact State.event_slot htaken
  · simp [State.event_idle (not_exists.mp hslot) hh hi, hp]

/-- Settles O51: what the fetch gives, then the exception of the undefined code or of the fetch by the slot. -/
theorem undefined_codes_and_fetch_errors : Obligations.undefined_codes_and_fetch_errors := by
  unfold Obligations.undefined_codes_and_fetch_errors
  intro s u hreset hu hi hh hp
  have hstep : step s = u.runInstruction := step_of_event_execute hreset hu (State.event_run hi hh hp)
  rw [hstep]
  refine ⟨fun len hpc hcode => ?undefined, fun hbad => ?addressError⟩
  case undefined =>
    have hfetch : u.fetch = .undefined len := by
      obtain ⟨⟨w, hdecode⟩, hshort, rfl⟩ | ⟨⟨v, w, hdecode⟩, hsecond, rfl⟩ := hcode
      · exact State.fetch_undefined16 hpc hshort hdecode
      · exact State.fetch_undefined32 hpc hsecond hdecode
    rw [State.runInstruction_undefined hfetch]
    exact ⟨fun h => by rw [State.illegal_none h], fun target h => by rw [State.illegal_taken h],
      fun h => by rw [State.illegal_untaken h]⟩
  case addressError =>
    rw [State.runInstruction_addressError (State.fetch_addressError hbad)]
    exact ⟨fun h => by rw [State.fetchError_other h], fun target h => by rw [State.fetchError_taken h]⟩

end Sys2Proof.Machine

/-!
PROOFS of the statements of the encoding: decode and encode agree (O42, O43, O44), and which instructions are illegal
where they stand (O50).
-/

namespace Sys2Proof

/-! ### Code units -/

/-- Two code units are the same when their nibbles, as the decoder reads them, are (R121). -/
theorem nibbles_eq_iff {a b c d a' b' c' d' : BitVec 4} : nibbles a b c d = nibbles a' b' c' d' ↔
    a.toNat = a'.toNat ∧ b.toNat = b'.toNat ∧ c.toNat = c'.toNat ∧ d.toNat = d'.toNat := by
  simp only [BitVec.toNat_inj]
  refine ⟨fun h => ?_, fun ⟨ha, hb, hc, hd⟩ => by rw [ha, hb, hc, hd]⟩
  have hk (k : Nat) : nibble (nibbles a b c d) k = nibble (nibbles a' b' c' d') k := congrArg (nibble · k) h
  exact ⟨by simpa using hk 3, by simpa using hk 2, by simpa using hk 1, by simpa using hk 0⟩

/-- Two second code units are the same when their selectors and displacements are (R125). -/
theorem nibbles12_eq_iff {a a' : BitVec 4} {x x' : BitVec 12} :
    nibbles12 a x = nibbles12 a' x' ↔ a.toNat = a'.toNat ∧ x = x' := by
  rw [BitVec.toNat_inj]
  refine ⟨fun h => ⟨?_, ?_⟩, fun ⟨ha, hx⟩ => by rw [ha, hx]⟩
  · simpa using congrArg (nibble · 3) h
  · simpa using congrArg (BitVec.extractLsb' 0 12) h

/-- The parts of a 20-bit immediate (R123, format ni20). -/
theorem immediate20_parts (c : BitVec 4) (w : Half) :
    (c ++ w).extractLsb' 16 4 = c ∧ (c ++ w).extractLsb' 0 16 = w := by
  rw [extract_append_high _ _ _ _ (by omega), extract_append_low _ _ _ _ (by omega)]
  exact ⟨extract_whole c, extract_whole w⟩

/-- A byte given by its two nibbles (R121). -/
theorem nibbles8_append (a b c d : BitVec 4) : nibbles8 a b (c ++ d) = nibbles a b c d := by
  rw [nibbles8, nibbles, BitVec.append_assoc']
  rfl

/-- Twelve bits given by their three nibbles (R121). -/
theorem nibbles12_append (a b c d : BitVec 4) : nibbles12 a (b ++ c ++ d) = nibbles a b c d := by
  rw [nibbles12, nibbles, BitVec.append_assoc', BitVec.append_assoc']
  rfl

/-- Every code unit is its four nibbles (R121). -/
theorem nibbles_nibble (w : Half) : nibbles (nibble w 3) (nibble w 2) (nibble w 1) (nibble w 0) = w := by
  have h : w.extractLsb' 0 (4 + 4 + 4 + 4) = w := extract_whole w
  rw [← extract_append_extract w 0 (4 + 4 + 4) 4, ← extract_append_extract w (0 + 4) (4 + 4) 4,
    ← extract_append_extract w (0 + 4 + 4) 4 4] at h
  exact h

/-- A second code unit is its selector and its displacement (R125). -/
theorem nibbles12_disp (w : Half) : nibbles12 (nibble w 3) (w.extractLsb' 0 12) = w :=
  (extract_append_extract w 0 4 12).trans (extract_whole w)

/-- A nibble is its top bit and the bit number below it (R123, formats ni3 and nid). -/
theorem bitNibble_number {d : BitVec 4} {t : Bool} (h : d.getLsbD 3 = t) :
    bitNibble (.ofBool t) (d.extractLsb' 0 3) = d := by
  subst h; revert d; decide

/-! ### The decoder, by code units -/

/-- The instruction that one or two code units stand for (R124). -/
def decodeUnits (md : FpMode) : List Half → Option Instr
  | [w] => if isLong w then none else decode16 md w
  | [v, w] => if isLong v then decode32 md v w else none
  | _ => none

/-- The code unit that two bytes make up has those bytes (R83). -/
theorem bytes_unit (b0 b1 : Byte) : (b0 ++ b1).extractLsb' 8 8 = b0 ∧ (b0 ++ b1).extractLsb' 0 8 = b1 := by
  rw [extract_append_high _ _ _ _ (by omega), extract_append_low _ _ _ _ (by omega)]
  exact ⟨extract_whole b0, extract_whole b1⟩

/-- The decoder reads code units from the front of the bytes. -/
theorem decode_eq_instruction_iff {md : FpMode} {bs : List Byte} {i : Instr} {rest : List Byte} :
    decode md bs = .instruction i rest ↔ ∃ ws, bs = unitBytes ws ++ rest ∧ decodeUnits md ws = some i := by
  constructor
  · intro h
    fun_cases decode md bs
    case case1 b0 b1 hlong b2 b3 rest' j hj =>
      refine ⟨[b0 ++ b1, b2 ++ b3], ?_, ?_⟩ <;> simp_all [decode, decodeUnits, bytes_unit]
    case case4 b0 b1 rest' hlong j hj =>
      refine ⟨[b0 ++ b1], ?_, ?_⟩ <;> simp_all [decode, decodeUnits, bytes_unit]
    all_goals simp_all [decode]
  · rintro ⟨ws, rfl, h⟩
    fun_cases decodeUnits md ws <;> simp_all [decodeUnits, decode]

/-! ### What is read is a code of what it is read as -/

/-- Code units whose reading `r`, if there is one, is the instruction they encode, in a mode that selects it. -/
def IsCode (md : FpMode) (ws : List Half) (r : Option Instr) : Prop :=
  ∀ i, r = some i → ws = encode i ∧ i.selectedBy md = true

theorem isCode_none (md : FpMode) (ws : List Half) : IsCode md ws none := fun _ h => nomatch h
theorem isCode_some {md : FpMode} {ws : List Half} {i : Instr} :
    IsCode md ws (some i) ↔ ws = encode i ∧ i.selectedBy md = true := by
  simp [IsCode]

/-- A code that a mode bit gives to one of two forms (R129). -/
theorem isCode_ite {md : FpMode} {ws : List Half} {i j : Instr} {b : Bool} :
    IsCode md ws (some (if b then i else j)) ↔
      (b = true → ws = encode i ∧ i.selectedBy md = true) ∧ (b = false → ws = encode j ∧ j.selectedBy md = true) := by
  cases b <;> simp [isCode_some]

section Classes

/-! In each branch of a class the nibbles that were read are those that the instruction's row prescribes. -/

variable {md : FpMode} {a b c d : BitVec 4}

theorem decodeClass0_isCode (ha : a.toNat = 0x0) : IsCode md [nibbles a b c d] (decodeClass0 b c d) := by
  fun_cases decodeClass0 b c d <;> simp [*, isCode_none, isCode_some, encode, Instr.selectedBy, nibbles_eq_iff]
theorem decodeClass2_isCode (ha : a.toNat = 0x2) : IsCode md [nibbles a b c d] (decodeClass2 b c d) := by
  fun_cases decodeClass2 b c d <;> simp [*, isCode_none, isCode_some, encode, Instr.selectedBy, nibbles_eq_iff]
theorem decodeClass3_isCode (ha : a.toNat = 0x3) : IsCode md [nibbles a b c d] (decodeClass3 b c d) := by
  fun_cases decodeClass3 b c d <;> simp [*, isCode_none, isCode_some, encode, Instr.selectedBy, nibbles_eq_iff]
theorem decodeClass4_isCode (ha : a.toNat = 0x4) : IsCode md [nibbles a b c d] (decodeClass4 b c d) := by
  fun_cases decodeClass4 b c d <;> simp [*, isCode_none, isCode_some, encode, Instr.selectedBy, nibbles_eq_iff]
theorem decodeClass6_isCode (ha : a.toNat = 0x6) : IsCode md [nibbles a b c d] (decodeClass6 b c d) := by
  fun_cases decodeClass6 b c d <;> simp [*, isCode_none, isCode_some, encode, Instr.selectedBy, nibbles_eq_iff]
theorem decodeClass8_isCode (ha : a.toNat = 0x8) : IsCode md [nibbles a b c d] (decodeClass8 b c d) := by
  have hclear : d.getLsbD 3 = false → bitNibble 0#1 (d.extractLsb' 0 3) = d := bitNibble_number
  have hset : d.getLsbD 3 = true → bitNibble 1#1 (d.extractLsb' 0 3) = d := bitNibble_number
  fun_cases decodeClass8 b c d <;>
    simp_all [isCode_none, isCode_some, encode, Instr.selectedBy, nibbles8_append, nibbles_eq_iff]
theorem decodeClassC_isCode (ha : a.toNat = 0xC) : IsCode md [nibbles a b c d] (decodeClassC b c d) := by
  fun_cases decodeClassC b c d <;>
    simp [*, isCode_none, isCode_some, encode, Instr.selectedBy, nibbles8_append, nibbles_eq_iff]
theorem decodeClassF_isCode (ha : a.toNat = 0xF) : IsCode md [nibbles a b c d] (decodeClassF md b c d) := by
  fun_cases decodeClassF md b c d <;>
    simp [*, isCode_none, isCode_some, ↓isCode_ite, encode, Instr.selectedBy, nibbles_eq_iff]

variable {sel : BitVec 4} {x : BitVec 12}

theorem decodeDisp12_isCode (ha : a.toNat = 0x3) (hd : d.toNat = 0x1) :
    IsCode md [nibbles a b c d, nibbles12 sel x] (decodeDisp12 md b c sel x) := by
  fun_cases decodeDisp12 md b c sel x <;>
    simp [*, isCode_none, isCode_some, ↓isCode_ite, encode, Instr.selectedBy, nibbles_eq_iff, nibbles12_eq_iff]
theorem decodeBitDisp12_isCode (ha : a.toNat = 0x3) (hd : d.toNat = 0x9) (hc : c.getLsbD 3 = false) :
    IsCode md [nibbles a b c d, nibbles12 sel x] (decodeBitDisp12 b c sel x) := by
  have hbit : bitNibble 0#1 (c.extractLsb' 0 3) = c := bitNibble_number hc
  fun_cases decodeBitDisp12 b c sel x <;>
    simp [*, isCode_none, isCode_some, encode, Instr.selectedBy, nibbles_eq_iff, nibbles12_eq_iff]

end Classes

/-- A sixteen-bit code, by its top nibble (R127). -/
theorem decode16_isCode (md : FpMode) (w : Half) : IsCode md [w] (decode16 md w) := by
  suffices h : IsCode md [nibbles (nibble w 3) (nibble w 2) (nibble w 1) (nibble w 0)] (decode16 md w) by
    rwa [nibbles_nibble] at h
  fun_cases decode16 md w
  case case1 ha => exact decodeClass0_isCode ha
  case case3 ha => exact decodeClass2_isCode ha
  case case4 ha => exact decodeClass3_isCode ha
  case case5 ha => exact decodeClass4_isCode ha
  case case7 ha => exact decodeClass6_isCode ha
  case case9 ha => exact decodeClass8_isCode ha
  case case13 ha => exact decodeClassC_isCode ha
  case case16 ha => exact decodeClassF_isCode ha
  -- The rows that have a top nibble to themselves.
  all_goals simp +zetaDelta [*, isCode_none, isCode_some, encode, Instr.selectedBy, nibbles8_append, nibbles12_append,
    nibbles_eq_iff]

/-- A 32-bit code, by the top and the low nibble of its first word (R124, R125). -/
theorem decode32_isCode (md : FpMode) (v w : Half) : IsCode md [v, w] (decode32 md v w) := by
  suffices h : IsCode md [nibbles (nibble v 3) (nibble v 2) (nibble v 1) (nibble v 0),
      nibbles12 (nibble w 3) (w.extractLsb' 0 12)] (decode32 md v w) by
    rwa [nibbles_nibble, nibbles12_disp] at h
  fun_cases decode32 md v w
  case case4 ha hd => exact decodeDisp12_isCode ha hd
  case case6 ha hd hc => exact decodeBitDisp12_isCode ha hd (Bool.eq_false_iff.mpr hc)
  all_goals simp +zetaDelta [*, isCode_none, isCode_some, encode, Instr.selectedBy, nibbles_eq_iff, nibbles12_disp,
    immediate20_parts]

/-- What the decoder reads is a code of what it reads it as. -/
theorem decodeUnits_isCode (md : FpMode) (ws : List Half) : IsCode md ws (decodeUnits md ws) := by
  fun_cases decodeUnits md ws
  case case2 w _ => exact decode16_isCode md w
  case case3 v w _ => exact decode32_isCode md v w
  all_goals exact isCode_none md _

/-! ### What an instruction's code is read as -/

section Reading

/-! Each class of codes has a map of its own. -/

variable {md : FpMode} {b c d : BitVec 4}

theorem decodeUnits_class0 (hd : d.toNat ≠ 0x0 ∧ d.toNat ≠ 0x1) :
    decodeUnits md [nibbles 0x0 b c d] = decodeClass0 b c d := by
  simp [decodeUnits, isLong, decode16, hd]
theorem decodeUnits_class2 : decodeUnits md [nibbles 0x2 b c d] = decodeClass2 b c d := by
  simp [decodeUnits, isLong, decode16]
theorem decodeUnits_class3 (hd : d.toNat ≠ 0x1 ∧ d.toNat ≠ 0x9) :
    decodeUnits md [nibbles 0x3 b c d] = decodeClass3 b c d := by
  simp [decodeUnits, isLong, decode16, hd]
theorem decodeUnits_class4 : decodeUnits md [nibbles 0x4 b c d] = decodeClass4 b c d := by
  simp [decodeUnits, isLong, decode16]
theorem decodeUnits_class6 : decodeUnits md [nibbles 0x6 b c d] = decodeClass6 b c d := by
  simp [decodeUnits, isLong, decode16]
theorem decodeUnits_class8 : decodeUnits md [nibbles 0x8 b c d] = decodeClass8 b c d := by
  simp [decodeUnits, isLong, decode16]
theorem decodeUnits_classC : decodeUnits md [nibbles 0xC b c d] = decodeClassC b c d := by
  simp [decodeUnits, isLong, decode16]
theorem decodeUnits_classF : decodeUnits md [nibbles 0xF b c d] = decodeClassF md b c d := by
  simp [decodeUnits, isLong, decode16]
theorem decodeUnits_disp12 (sel : BitVec 4) (x : BitVec 12) :
    decodeUnits md [nibbles 0x3 b c 0x1, nibbles12 sel x] = decodeDisp12 md b c sel x := by
  simp [decodeUnits, isLong, decode32]
theorem decodeUnits_bitDisp12 (i : BitVec 3) (sel : BitVec 4) (x : BitVec 12) :
    decodeUnits md [nibbles 0x3 b (bitNibble 0 i) 0x9, nibbles12 sel x] = decodeBitDisp12 b (bitNibble 0 i) sel x := by
  simp [decodeUnits, isLong, decode32]

end Reading

/-- The code units of an instruction are read back as it: the class of its code, then the row in that class (R127). -/
theorem decodeUnits_encode {md : FpMode} {i : Instr} (h : i.selectedBy md = true) :
    decodeUnits md (encode i) = some i := by
  cases i with
  | movBStoreIdx | movWStoreIdx | movLStoreIdx | movBLoadIdx | movWLoadIdx | movLLoadIdx | movrt | movt | nott | pref
  | div0u | mulL | macL | braf | bsrf | rts | rtsN | rtvN | clrt | sett | clrmac | nop | rte | sleep | stcSr | stcGbr
  | stcVbr | stcTbr | stsMach | stsMacl | stsPr | resbank | stsFpul | stsFpscr =>
    exact decodeUnits_class0 (by decide)
  | movBStore | movWStore | movLStore | movBStorePreDec | movWStorePreDec | movLStorePreDec | xtrct | cmpStr | div0s
  | andReg | orReg | tstReg | xorReg | mulsW | muluW =>
    exact decodeUnits_class2
  | add | addc | addv | sub | subc | subv | cmpEq | cmpHs | cmpGe | cmpHi | cmpGt | div1 | dmulsL | dmuluL =>
    exact decodeUnits_class3 (by decide)
  | movBStorePostInc | movWStorePostInc | movLStorePostInc | movBLoadPreDec | movWLoadPreDec | movLLoadPreDec
  | movmlPush | movmlPop | movmuPush | movmuPop | cmpPl | cmpPz | dt | clipsB | clipsW | clipuB | clipuW | divs | divu
  | mulr | tasB | rotl | rotr | rotcl | rotcr | shal | shar | shll | shlr | shll2 | shll8 | shll16 | shlr2 | shlr8
  | shlr16 | shad | shld | jmp | jsr | jsrN | ldcSr | ldcGbr | ldcVbr | ldcTbr | ldcLSr | ldcLGbr | ldcLVbr | ldsMach
  | ldsMacl | ldsPr | ldsLMach | ldsLMacl | ldsLPr | stcLSr | stcLGbr | stcLVbr | stsLMach | stsLMacl | stsLPr | ldbank
  | stbank | macW | ldsFpul | ldsLFpul | ldsFpscr | ldsLFpscr | stsLFpul | stsLFpscr =>
    exact decodeUnits_class4
  | movReg | movBLoad | movWLoad | movLLoad | movBLoadPostInc | movWLoadPostInc | movLLoadPostInc | swapB | swapW | neg
  | negc | extsB | extsW | extuB | extuW | notReg =>
    exact decodeUnits_class6
  | movBStoreDisp4 | movWStoreDisp4 | movBLoadDisp4 | movWLoadDisp4 => exact decodeUnits_class8
  | bclrReg n i | bsetReg n i | bldReg n i | bstReg n i =>
    refine decodeUnits_class8.trans ?_
    simp [decodeClass8]
  | cmpEqImm | bf | bfS | bt | btS | jsrNTbr =>
    simp [encode, decodeUnits, isLong, decode16, decodeClass8]
  | movBStoreGbr | movWStoreGbr | movLStoreGbr | movBLoadGbr | movWLoadGbr | movLLoadGbr | mova | andImm | andBGbr
  | orImm | orBGbr | tstImm | tstBGbr | xorImm | xorBGbr | trapa =>
    simp [encode, decodeUnits, isLong, decode16, decodeClassC]
  -- The rows that have a top nibble to themselves.
  | movLStoreDisp4 | movLLoadDisp4 | addImm | movWPcRel | bra | bsr | movLPcRel | movImm =>
    simp [encode, decodeUnits, isLong, decode16]
  | fcnvds | fcnvsd | fmac | flds | fsts | fldi0 | fldi1 | fschg => exact decodeUnits_classF
  -- Two forms share each of these codes, and the mode selects one (R129).
  | fabsFR | fabsDR | faddFR | faddDR | fcmpEqFR | fcmpEqDR | fcmpGtFR | fcmpGtDR | fdivFR | fdivDR | floatFR | floatDR
  | fmulFR | fmulDR | fnegFR | fnegDR | fsqrtFR | fsqrtDR | fsubFR | fsubDR | ftrcFR | ftrcDR | fmovFR | fmovDR
  | fmovSStore | fmovDStore | fmovSLoad | fmovDLoad | fmovSLoadPostInc | fmovDLoadPostInc | fmovSStorePreDec
  | fmovDStorePreDec | fmovSLoadIdx | fmovDLoadIdx | fmovSStoreIdx | fmovDStoreIdx =>
    refine decodeUnits_classF.trans ?_
    simp_all [decodeClassF, Instr.selectedBy]
  -- Two code units, the second with a selector and a displacement or with the immediate (R125).
  | movBStoreDisp12 | movWStoreDisp12 | movLStoreDisp12 | movBLoadDisp12 | movWLoadDisp12 | movLLoadDisp12
  | movuBLoadDisp12 | movuWLoadDisp12 => exact decodeUnits_disp12 ..
  | fmovSStoreDisp12 | fmovDStoreDisp12 | fmovSLoadDisp12 | fmovDLoadDisp12 =>
    refine (decodeUnits_disp12 ..).trans ?_
    simp_all [decodeDisp12, Instr.selectedBy]
  | bandB | bandnotB | borB | bornotB | bxorB | bldB | bldnotB | bclrB | bsetB | bstB =>
    refine (decodeUnits_bitDisp12 ..).trans ?_
    simp [decodeBitDisp12]
  | movi20 | movi20s =>
    simp [encode, decodeUnits, isLong, decode32]

/-- The readings of code units are the encodings, in the modes that select them. -/
theorem decodeUnits_eq_some_iff {md : FpMode} {ws : List Half} {i : Instr} :
    decodeUnits md ws = some i ↔ ws = encode i ∧ i.selectedBy md = true := by
  refine ⟨decodeUnits_isCode md ws i, ?_⟩
  rintro ⟨rfl, h⟩
  exact decodeUnits_encode h

/-- Settles O42: the decoder reads the code units of the encoding. -/
theorem decode_encode : Obligations.decode_encode := by
  unfold Obligations.decode_encode
  intro md i rest h
  exact decode_eq_instruction_iff.mpr ⟨encode i, rfl, decodeUnits_eq_some_iff.mpr ⟨rfl, h⟩⟩

/-- Settles O43: the code units that the decoder reads are the encoding. -/
theorem encode_decode : Obligations.encode_decode := by
  unfold Obligations.encode_decode
  intro md bs i rest h
  obtain ⟨ws, hbs, hws⟩ := decode_eq_instruction_iff.mp h
  obtain ⟨rfl, hmode⟩ := decodeUnits_eq_some_iff.mp hws
  exact ⟨hbs, hmode⟩

/-- Settles O44: the assigned words are the encodings of their instructions, so O42 reads them back. -/
theorem sample_words : Obligations.sample_words := by
  unfold Obligations.sample_words
  have hread (md : FpMode) (i : Instr) (h : i.selectedBy md = true) :
      decode md (unitBytes (encode i)) = .instruction i [] := by
    simpa using decode_encode md i [] h
  exact ⟨hread _ (.movImm 1 0x80) rfl, hread _ (.add 0 1) rfl, hread _ (.andImm 0x0F) rfl, hread _ (.shad 1 2) rfl,
    hread _ (.bf 0xFE) rfl, hread _ .rte rfl, hread _ (.bandB 0 5 2) rfl, hread _ (.movi20 0 0x7FFFF) rfl,
    hread _ (.faddFR 0 1) rfl, hread _ (.faddDR 4 2) rfl, hread _ (.fmovDStoreDisp12 0 2 2) rfl, by decide, by decide,
    by decide⟩

end Sys2Proof

/-! ### Codes that are illegal where they stand -/

namespace Sys2Proof.Machine

open Sys2Proof

theorem State.withBanks_absent {s : State} (h : s.cfg.hasBanks = false) (r : Res) :
    s.withBanks r = .next (s.illegal 2) := by
  simp [State.withBanks, h]
theorem State.withPrecision_wrong {s : State} {pr : Bool} (h : s.fpPr ≠ pr) (r : Res) :
    s.withPrecision pr r = .next (s.illegal 2) := by
  simp [State.withPrecision, h]

/-- In a slot a 32-bit FPU instruction is illegal with or without an FPU. -/
theorem State.withFpu_outsideSlot_slot {s : State} (h : s.slot ≠ .none) (len : Word) (r : Res) :
    s.withFpu len (s.outsideSlot len r) = .next (s.illegal len) := by
  rw [State.outsideSlot_slot h, State.withFpu, ite_self]

/-- Without banks RESBANK is illegal in a slot and out of one. -/
theorem State.outsideSlot_withBanks_absent {s : State} (h : s.cfg.hasBanks = false) (r : Res) :
    s.outsideSlot 2 (s.withBanks r) = .next (s.illegal 2) := by
  rw [State.withBanks_absent h, State.outsideSlot, ite_self]

/-- The length of an instruction in bytes (R124). -/
def byteLength (i : Instr) : Word := BitVec.ofNat 32 (2 * (encode i).length)

section Illegal

variable {i : Instr} {s : State}

/-- The instructions that may not stand in a slot (R142). -/
theorem exec_slotIllegal (hi : i.slotIllegal = true) (hs : s.slot ≠ .none) :
    exec i s = .next (s.illegal (byteLength i)) := by
  cases i with
  | jmp | jsr | bra | bsr | rts | rte | bt | bf | trapa | btS | bfS | bsrf | braf | jsrN | jsrNTbr | rtvN | rtsN
  | resbank | divs | divu =>
    exact State.outsideSlot_slot hs 2 _
  | movBStoreDisp12 | movWStoreDisp12 | movLStoreDisp12 | movBLoadDisp12 | movWLoadDisp12 | movLLoadDisp12
  | movuBLoadDisp12 | movuWLoadDisp12 | movi20 | movi20s | bandB | bandnotB | borB | bornotB | bxorB | bldB | bldnotB
  | bclrB | bsetB | bstB =>
    exact State.outsideSlot_slot hs 4 _
  | fmovSStoreDisp12 | fmovDStoreDisp12 | fmovSLoadDisp12 | fmovDLoadDisp12 =>
    exact State.withFpu_outsideSlot_slot hs 4 _
  | _ => exact absurd hi Bool.false_ne_true

/-- The FPU instructions and FPU-related CPU instructions, without a running FPU (R141). -/
theorem exec_usesFpu (hi : i.usesFpu = true) (hf : s.fpuReady = false) :
    exec i s = .next (s.illegal (byteLength i)) := by
  cases i with
  | fmovSStoreDisp12 | fmovDStoreDisp12 | fmovSLoadDisp12 | fmovDLoadDisp12 => exact State.withFpu_absent hf 4 _
  | fabsFR | fabsDR | faddFR | faddDR | fcmpEqFR | fcmpEqDR | fcmpGtFR | fcmpGtDR | fcnvds | fcnvsd | fdivFR | fdivDR
  | floatFR | floatDR | fmac | fmulFR | fmulDR | fnegFR | fnegDR | fsqrtFR | fsqrtDR | fsubFR | fsubDR | ftrcFR | ftrcDR
  | fmovFR | fmovDR | fmovSStore | fmovDStore | fmovSLoad | fmovDLoad | fmovSLoadPostInc | fmovDLoadPostInc
  | fmovSStorePreDec | fmovDStorePreDec | fmovSLoadIdx | fmovDLoadIdx | fmovSStoreIdx | fmovDStoreIdx | flds | fsts
  | fldi0 | fldi1 | fschg | ldsFpul | ldsLFpul | ldsFpscr | ldsLFpscr | stsFpul | stsFpscr | stsLFpul | stsLFpscr =>
    exact State.withFpu_absent hf 2 _
  | _ => exact absurd hi Bool.false_ne_true

/-- The bank instructions, on a product without banks (R141). -/
theorem exec_usesBanks (hi : i.usesBanks = true) (hb : s.cfg.hasBanks = false) :
    exec i s = .next (s.illegal (byteLength i)) := by
  cases i with
  | resbank => exact State.outsideSlot_withBanks_absent hb _
  | ldbank | stbank => exact State.withBanks_absent hb _
  | _ => exact absurd hi Bool.false_ne_true

/-- The FPU forms that the precision does not have (R506). -/
theorem exec_wrongPrecision (hf : s.fpuReady = true) (hi : i.wrongPrecision s.fpPr = true) :
    exec i s = .next (s.illegal (byteLength i)) := by
  cases i with
  | fcnvds | fcnvsd =>
    have hpr : s.fpPr ≠ true := by simpa [Instr.wrongPrecision] using hi
    exact (State.withFpu_ready hf 2 _).trans (State.withPrecision_wrong hpr _)
  | fmac | fldi0 | fldi1 | fschg =>
    have hpr : s.fpPr ≠ false := Bool.ne_false_iff.mpr hi
    exact (State.withFpu_ready hf 2 _).trans (State.withPrecision_wrong hpr _)
  | _ => exact absurd hi Bool.false_ne_true

end Illegal

/-- Settles O50: each such instruction gives the illegal instruction exception of its length, which the slot makes a
general or a slot illegal one. -/
theorem illegal_codes : Obligations.illegal_codes := by
  unfold Obligations.illegal_codes
  refine ⟨fun i s target hs hi => ?taken, fun i s hs hi => ?untaken, fun i s hcode => ?general⟩
  case taken => rw [exec_slotIllegal hi (by simp [hs]), State.illegal_taken hs]
  case untaken =>
    rw [exec_slotIllegal hi (by simp [hs]), State.illegal_untaken hs]
    rfl
  case general =>
    have hexec : exec i s = .next (s.illegal (byteLength i)) := by
      obtain ⟨hi, hf⟩ | ⟨hi, hb⟩ | ⟨hf, hi⟩ := hcode
      · exact exec_usesFpu hi hf
      · exact exec_usesBanks hi hb
      · exact exec_wrongPrecision hf hi
    rw [hexec]
    exact ⟨fun hs => by rw [State.illegal_none hs], fun target hs => by rw [State.illegal_taken hs],
      fun hs => by rw [State.illegal_untaken hs, byteLength]⟩

end Sys2Proof.Machine

/-!
PROOFS of the statements of the data transfers: codes and effects (O1 to O7), what they and the other register, loading
and storing instructions leave unchanged (O38 to O40), and faulting accesses (O54).
-/

/-! ### Data transfers whose accesses are allowed -/

namespace Sys2Proof.Machine

open Sys2Proof

/-! Displacements, by the operand size (R136). -/

theorem dispScaled_byte {w : Nat} (d : BitVec w) : dispScaled d 0 = d.setWidth 32 := BitVec.shiftLeft_zero _
theorem dispScaled_word {w : Nat} (d : BitVec w) : dispScaled d 1 = d.setWidth 32 * 2 :=
  BitVec.shiftLeft_eq_mul_twoPow (d.setWidth 32) 1
theorem dispScaled_longword {w : Nat} (d : BitVec w) : dispScaled d 2 = d.setWidth 32 * 4 :=
  BitVec.shiftLeft_eq_mul_twoPow (d.setWidth 32) 2

/-- The value of PC in an operand, by the slot (R132, R133). -/
theorem State.pcValue_eq {s : State} {pcv : Word}
    (h : (∀ t, s.slot = .taken t → pcv = t + 2) ∧ ((∀ t, s.slot ≠ .taken t) → pcv = s.pc + 4)) : s.pcValue = pcv := by
  obtain ⟨htaken, hother⟩ := h
  unfold State.pcValue
  split
  · next target hslot => exact (htaken target hslot).symm
  · next hslot => exact (hother hslot).symm

section Answers

variable {s : State} (hh : s.held = false)
include hh

/-- A value into a general register ends the instruction. -/
theorem State.putReg_after (len : Word) (n : GReg) (v : Word) :
    s.putReg len n v = .next ((s.setReg n v).after len) :=
  State.done_after (s := s.setReg n v) hh len

/-- A load that delivers its datum. -/
theorem loadInto_ok {r : Word × State} {v : Word} (hr : r = (v, s)) (len : Word) (n : GReg) :
    loadInto len n r = .next ((s.setReg n v).after len) := by
  rw [hr]
  exact State.putReg_after hh len n v

/-- The same with post-increment: none is visible when the address register is the destination (R216). -/
theorem loadPostInc_ok {r : Word × State} {v : Word} (hr : r = (v, s)) (m n : GReg) (size : Word) :
    loadPostInc m n size r =
      .next ((if n = m then s.setReg n v else (s.setReg n v).setReg m (s.reg m + size)).after 2) := by
  rw [hr]
  unfold loadPostInc
  simp only
  split
  · exact State.done_after (s := s.setReg n v) hh 2
  · next hnm =>
    rw [State.reg_setReg_other s n m v (Ne.symm hnm)]
    exact State.done_after (s := (s.setReg n v).setReg m (s.reg m + size)) hh 2

/-- An instruction whose stores come to writes of memory, which raise nothing. -/
theorem State.done_stored {t u : State} (ht : t = u) (hu : u.held = s.held) (len : Word) :
    t.done len = .next (u.after len) := by
  rw [ht]
  exact State.done_after (hu.trans hh) len

/-- The same with an address register moved after the store. -/
theorem State.done_stored_moved {t u : State} (ht : t = u) (hu : u.held = s.held) (n : GReg) (v : Word) :
    (t.setReg n v).done 2 = .next ((u.setReg n v).after 2) := by
  rw [ht]
  exact State.done_after (s := u.setReg n v) (hu.trans hh) 2

end Answers

/-- A wide immediate shifted by a byte is its 24 bits above a zero byte (R251). -/
theorem immSigned_shifted (i : BitVec 20) : immSigned i <<< 8 = i.signExtend 24 ++ 0#8 := by
  ext k hk
  simp [immSigned, BitVec.getElem_signExtend]
  grind

/-- Settles O1: each is a value into a register, or T, or nothing. -/
theorem register_moves : Obligations.register_moves := by
  unfold Obligations.register_moves
  refine ⟨fun n i s => ⟨rfl, fun hh => State.putReg_after hh 2 n _⟩,
    fun m n s => ⟨rfl, fun hh => State.putReg_after hh 2 n _⟩, fun d s => ⟨rfl, fun hh pcv hpc => ?mova⟩,
    fun n i s => ⟨rfl, fun hh hs => ?movi20⟩, fun n i s => ⟨rfl, fun hh hs => ?movi20s⟩,
    fun n s => ⟨rfl, fun hh => ?movrt⟩, fun n s => ⟨rfl, fun hh => State.putReg_after hh 2 n _⟩,
    fun s => ⟨rfl, fun hh => State.done_after (s := s.setT (!s.t)) hh 2⟩,
    fun n s => ⟨rfl, fun hh => State.done_after hh 2⟩, fun m n s => ⟨rfl, fun hh => State.putReg_after hh 2 n _⟩,
    fun m n s => ⟨rfl, fun hh => State.putReg_after hh 2 n _⟩,
    fun m n s => ⟨rfl, fun hh => State.putReg_after hh 2 n _⟩⟩
  case mova =>
    rw [← State.pcValue_eq hpc, ← dispScaled_longword]
    exact State.putReg_after hh 2 0 _
  case movi20 => exact (State.outsideSlot_none hs 4 _).trans (State.putReg_after hh 4 n _)
  case movi20s =>
    rw [← immSigned_shifted]
    exact (State.outsideSlot_none hs 4 _).trans (State.putReg_after hh 4 n _)
  case movrt =>
    have hnot : bitWord (!s.t) = if s.t then 0 else 1 := by cases s.t <;> rfl
    rw [← hnot]
    exact State.putReg_after hh 2 n _

/-- Settles O2: each load delivers the datum at its effective address. -/
theorem plain_loads : Obligations.plain_loads := by
  unfold Obligations.plain_loads
  refine ⟨fun n d s => ⟨rfl, fun hh pcv hpc hc => loadInto_ok hh ?pcWord 2 n⟩,
    fun n d s => ⟨rfl, fun hh pcv hpc hc => loadInto_ok hh ?pcLong 2 n⟩,
    fun m n s => ⟨rfl, fun hh hc => loadInto_ok hh (State.load8s_ok hc) 2 n⟩,
    fun m n s => ⟨rfl, fun hh hc => loadInto_ok hh (State.load16s_ok hc) 2 n⟩,
    fun m n s => ⟨rfl, fun hh hc => loadInto_ok hh (State.load32_ok hc) 2 n⟩,
    fun m d s => ⟨rfl, fun hh hc => loadInto_ok hh ?byteDisp 2 0⟩,
    fun m d s => ⟨rfl, fun hh hc => loadInto_ok hh ?wordDisp 2 0⟩,
    fun m n d s => ⟨rfl, fun hh hc => loadInto_ok hh ?longwordDisp 2 n⟩,
    fun m n s => ⟨rfl, fun hh hc => loadInto_ok hh (State.load8s_ok hc) 2 n⟩,
    fun m n s => ⟨rfl, fun hh hc => loadInto_ok hh (State.load16s_ok hc) 2 n⟩,
    fun m n s => ⟨rfl, fun hh hc => loadInto_ok hh (State.load32_ok hc) 2 n⟩⟩
  case pcWord => rw [State.eaPcWord, State.pcValue_eq hpc, dispScaled_word, State.load16s_ok hc]
  case pcLong => rw [State.eaPcLong, State.pcValue_eq hpc, dispScaled_longword, alignDown, State.load32_ok hc]
  case byteDisp => rw [State.eaDisp, dispScaled_byte, State.load8s_ok hc]
  case wordDisp => rw [State.eaDisp, dispScaled_word, State.load16s_ok hc]
  case longwordDisp => rw [State.eaDisp, dispScaled_longword, State.load32_ok hc]

/-- Settles O3: the address register moves beside the load, before the destination is written when it decrements. -/
theorem updating_loads : Obligations.updating_loads := by
  unfold Obligations.updating_loads
  refine ⟨fun m n s => ⟨rfl, fun hh hc => loadPostInc_ok hh (State.load8s_ok hc) m n 1⟩,
    fun m n s => ⟨rfl, fun hh hc => loadPostInc_ok hh (State.load16s_ok hc) m n 2⟩,
    fun m n s => ⟨rfl, fun hh hc => loadPostInc_ok hh (State.load32_ok hc) m n 4⟩,
    fun m s => ⟨rfl, fun hh hc => loadInto_ok (s := s.preDec m 1) hh (State.load8s_ok hc) 2 0⟩,
    fun m s => ⟨rfl, fun hh hc => loadInto_ok (s := s.preDec m 2) hh (State.load16s_ok hc) 2 0⟩,
    fun m s => ⟨rfl, fun hh hc => loadInto_ok (s := s.preDec m 4) hh (State.load32_ok hc) 2 0⟩,
    fun d s => ⟨rfl, fun hh hc => loadInto_ok hh ?byte 2 0⟩,
    fun d s => ⟨rfl, fun hh hc => loadInto_ok hh ?word 2 0⟩,
    fun d s => ⟨rfl, fun hh hc => loadInto_ok hh ?longword 2 0⟩⟩
  case byte => rw [State.eaGbr, dispScaled_byte, State.load8s_ok hc]
  case word => rw [State.eaGbr, dispScaled_word, State.load16s_ok hc]
  case longword => rw [State.eaGbr, dispScaled_longword, State.load32_ok hc]

/-- Settles O4: outside a slot each is its store or its load, four bytes long. -/
theorem disp12_transfers : Obligations.disp12_transfers := by
  unfold Obligations.disp12_transfers
  refine ⟨fun m n d s => ⟨rfl, fun hh hs hc => (State.outsideSlot_none hs 4 _).trans (State.done_stored hh ?byteStore
      (State.poke_held ..) 4)⟩,
    fun m n d s => ⟨rfl, fun hh hs hc => (State.outsideSlot_none hs 4 _).trans (State.done_stored hh ?wordStore
      (State.poke16_held ..) 4)⟩,
    fun m n d s => ⟨rfl, fun hh hs hc => (State.outsideSlot_none hs 4 _).trans (State.done_stored hh ?longwordStore
      (State.poke32_held ..) 4)⟩,
    fun m n d s => ⟨rfl, fun hh hs hc => (State.outsideSlot_none hs 4 _).trans (loadInto_ok hh ?byte 4 n)⟩,
    fun m n d s => ⟨rfl, fun hh hs hc => (State.outsideSlot_none hs 4 _).trans (loadInto_ok hh ?word 4 n)⟩,
    fun m n d s => ⟨rfl, fun hh hs hc => (State.outsideSlot_none hs 4 _).trans (loadInto_ok hh ?longword 4 n)⟩,
    fun m n d s => ⟨rfl, fun hh hs hc => (State.outsideSlot_none hs 4 _).trans (loadInto_ok hh ?byteZero 4 n)⟩,
    fun m n d s => ⟨rfl, fun hh hs hc => (State.outsideSlot_none hs 4 _).trans (loadInto_ok hh ?wordZero 4 n)⟩⟩
  case byteStore => rw [State.eaDisp, dispScaled_byte, State.store8_ok hc]
  case wordStore => rw [State.eaDisp, dispScaled_word, State.store16_ok hc]
  case longwordStore => rw [State.eaDisp, dispScaled_longword, State.store32_ok hc]
  case byte => rw [State.eaDisp, dispScaled_byte, State.load8s_ok hc]
  case word => rw [State.eaDisp, dispScaled_word, State.load16s_ok hc]
  case longword => rw [State.eaDisp, dispScaled_longword, State.load32_ok hc]
  case byteZero => rw [State.eaDisp, dispScaled_byte, State.load8u_ok hc]
  case wordZero => rw [State.eaDisp, dispScaled_word, State.load16u_ok hc]

/-- Settles O5: each is a write of memory at its effective address, then the decrement where there is one. -/
theorem plain_stores : Obligations.plain_stores := by
  unfold Obligations.plain_stores
  refine ⟨fun m n s => ⟨rfl, fun hh hc => State.done_stored hh (State.store8_ok hc _) (State.poke_held ..) 2⟩,
    fun m n s => ⟨rfl, fun hh hc => State.done_stored hh (State.store16_ok hc _) (State.poke16_held ..) 2⟩,
    fun m n s => ⟨rfl, fun hh hc => State.done_stored hh (State.store32_ok hc _) (State.poke32_held ..) 2⟩,
    fun m n s => ⟨rfl, fun hh hc => State.done_stored_moved hh (State.store8_ok hc _) (State.poke_held ..) n _⟩,
    fun m n s => ⟨rfl, fun hh hc => State.done_stored_moved hh (State.store16_ok hc _) (State.poke16_held ..) n _⟩,
    fun m n s => ⟨rfl, fun hh hc => State.done_stored_moved hh (State.store32_ok hc _) (State.poke32_held ..) n _⟩,
    fun n d s => ⟨rfl, fun hh hc => State.done_stored hh ?byteDisp (State.poke_held ..) 2⟩,
    fun n d s => ⟨rfl, fun hh hc => State.done_stored hh ?wordDisp (State.poke16_held ..) 2⟩,
    fun m n d s => ⟨rfl, fun hh hc => State.done_stored hh ?longwordDisp (State.poke32_held ..) 2⟩,
    fun m n s => ⟨rfl, fun hh hc => State.done_stored hh (State.store8_ok hc _) (State.poke_held ..) 2⟩,
    fun m n s => ⟨rfl, fun hh hc => State.done_stored hh (State.store16_ok hc _) (State.poke16_held ..) 2⟩,
    fun m n s => ⟨rfl, fun hh hc => State.done_stored hh (State.store32_ok hc _) (State.poke32_held ..) 2⟩⟩
  case byteDisp => rw [State.eaDisp, dispScaled_byte, State.store8_ok hc]
  case wordDisp => rw [State.eaDisp, dispScaled_word, State.store16_ok hc]
  case longwordDisp => rw [State.eaDisp, dispScaled_longword, State.store32_ok hc]

/-- Settles O6: each is a write of memory at the address before any increment. -/
theorem gbr_and_postinc_stores : Obligations.gbr_and_postinc_stores := by
  unfold Obligations.gbr_and_postinc_stores
  refine ⟨fun d s => ⟨rfl, fun hh hc => State.done_stored hh ?byte (State.poke_held ..) 2⟩,
    fun d s => ⟨rfl, fun hh hc => State.done_stored hh ?word (State.poke16_held ..) 2⟩,
    fun d s => ⟨rfl, fun hh hc => State.done_stored hh ?longword (State.poke32_held ..) 2⟩,
    fun n s => ⟨rfl, fun hh hc => State.done_stored_moved hh (State.store8_ok hc _) (State.poke_held ..) n _⟩,
    fun n s => ⟨rfl, fun hh hc => State.done_stored_moved hh (State.store16_ok hc _) (State.poke16_held ..) n _⟩,
    fun n s => ⟨rfl, fun hh hc => State.done_stored_moved hh (State.store32_ok hc _) (State.poke32_held ..) n _⟩⟩
  case byte => rw [State.eaGbr, dispScaled_byte, State.store8_ok hc]
  case word => rw [State.eaGbr, dispScaled_word, State.store16_ok hc]
  case longword => rw [State.eaGbr, dispScaled_longword, State.store32_ok hc]

end Sys2Proof.Machine

/-! ### What register, loading and storing instructions leave unchanged -/

namespace Sys2Proof.Machine

open Sys2Proof

/-- Writes a control or system register. -/
def State.setSpecial (s : State) : Special → Word → State
  | .gbr, v => s.setGbr v
  | .vbr, v => s.setVbr v
  | .tbr, v => s.setTbr v
  | .mach, v => s.setMach v
  | .macl, v => s.setMacl v
  | .pr, v => s.setPr v
  | .fpul, v => s.setFpul v
  | .fpscr, v => { s with fpscr := v }

theorem State.special_setSpecial_other (s : State) {x y : Special} (v : Word) (h : y ≠ x) :
    (s.setSpecial x v).special y = s.special y := by
  cases x <;> cases y <;> first | rfl | exact absurd rfl h

/-- A write of one control or system register leaves every other part of the state. -/
theorem State.setSpecial_frame (s : State) (x : Special) (v : Word) : ∃ a b c d e f g i, s.setSpecial x v =
    { s with gbr := a, vbr := b, tbr := c, mach := d, macl := e, pr := f, fpul := g, fpscr := i } := by
  cases x <;> exact ⟨_, _, _, _, _, _, _, _, rfl⟩

/-- `t` differs from `s` only in the listed registers, the bits of SR, the `size` bytes from `first` up, and in where
control stands; nothing new is held. -/
structure Confined (s t : State) (ks : List GReg) (fs : List FReg) (bits : Word) (xs : List Special) (first : Word)
    (size : Nat) : Prop where
  same : SameBut s t ks fs bits xs
  memory : SameMemoryOutside s t first size
  held : t.held = s.held

section Chain

variable {s t u : State} {ks : List GReg} {fs : List FReg} {bits : Word} {xs : List Special} {first : Word} {size : Nat}

theorem Confined.refl (s : State) : Confined s s ks fs bits xs first size where
  same := ⟨fun _ _ => rfl, fun _ _ => rfl, rfl, fun _ _ => rfl, ⟨rfl, rfl⟩, rfl, rfl, rfl, rfl⟩
  memory := fun _ _ => rfl
  held := rfl

variable (h : Confined s t ks fs bits xs first size)
include h

theorem Confined.trans (hu : Confined t u ks fs bits xs first size) : Confined s u ks fs bits xs first size := by
  obtain ⟨⟨hregs, hfregs, hsr, hspecials, ⟨hbanks, hbn⟩, hcfg, hstopped, hinputs, houtside⟩, hmem, hheld⟩ := h
  obtain ⟨⟨gregs, gfregs, gsr, gspecials, ⟨gbanks, gbn⟩, gcfg, gstopped, ginputs, goutside⟩, gmem, gheld⟩ := hu
  exact ⟨⟨fun k hk => (gregs k hk).trans (hregs k hk), fun k hk => (gfregs k hk).trans (hfregs k hk), gsr.trans hsr,
    fun x hx => (gspecials x hx).trans (hspecials x hx), ⟨gbanks.trans hbanks, gbn.trans hbn⟩, gcfg.trans hcfg,
    gstopped.trans hstopped, ginputs.trans hinputs, goutside.trans houtside⟩,
    fun a ha => (gmem a ha).trans (hmem a ha), gheld.trans hheld⟩

/-! One operation more. -/

theorem Confined.setReg {n : GReg} (hn : n ∈ ks) (v : Word) : Confined s (t.setReg n v) ks fs bits xs first size :=
  h.trans ⟨⟨fun k hk => State.reg_setReg_other t n k v (fun e => hk (e ▸ hn)), fun _ _ => rfl, rfl, fun _ _ => rfl,
      ⟨rfl, rfl⟩, rfl, rfl, rfl, rfl⟩, fun _ _ => rfl, rfl⟩
theorem Confined.setFreg {n : FReg} (hn : n ∈ fs) (v : Word) : Confined s (t.setFreg n v) ks fs bits xs first size :=
  h.trans ⟨⟨fun _ _ => rfl, fun k hk => State.freg_setFreg_other t n k v (fun e => hk (e ▸ hn)), rfl, fun _ _ => rfl,
      ⟨rfl, rfl⟩, rfl, rfl, rfl, rfl⟩, fun _ _ => rfl, rfl⟩
theorem Confined.setDreg {n : DReg} (hhigh : pairHigh n ∈ fs) (hlow : pairLow n ∈ fs) (v : Quad) :
    Confined s (t.setDreg n v) ks fs bits xs first size :=
  (h.setFreg hhigh (highWord v)).setFreg hlow (lowWord v)
theorem Confined.withSr {v : Word} (hv : v &&& ~~~bits = t.sr &&& ~~~bits) :
    Confined s { t with sr := v } ks fs bits xs first size :=
  h.trans ⟨⟨fun _ _ => rfl, fun _ _ => rfl, hv, fun _ _ => rfl, ⟨rfl, rfl⟩, rfl, rfl, rfl, rfl⟩, fun _ _ => rfl, rfl⟩
theorem Confined.setT (hb : bits.getLsbD 0 = true) (b : Bool) : Confined s (t.setT b) ks fs bits xs first size :=
  h.withSr (withBit_outside b hb)
theorem Confined.setQ (hb : bits.getLsbD 8 = true) (b : Bool) : Confined s (t.setQ b) ks fs bits xs first size :=
  h.withSr (withBit_outside b hb)
theorem Confined.setM (hb : bits.getLsbD 9 = true) (b : Bool) : Confined s (t.setM b) ks fs bits xs first size :=
  h.withSr (withBit_outside b hb)
theorem Confined.setCs (hb : bits.getLsbD 13 = true) (b : Bool) : Confined s (t.setCs b) ks fs bits xs first size :=
  h.withSr (withBit_outside b hb)
theorem Confined.setSpecial {x : Special} (hx : x ∈ xs) (v : Word) :
    Confined s (t.setSpecial x v) ks fs bits xs first size := by
  have hspecials : SameSpecials t (t.setSpecial x v) xs :=
    fun y hy => t.special_setSpecial_other v (fun e => hy (e ▸ hx))
  obtain ⟨_, _, _, _, _, _, _, _, hset⟩ := t.setSpecial_frame x v
  rw [hset] at hspecials ⊢
  exact h.trans ⟨⟨fun _ _ => rfl, fun _ _ => rfl, rfl, hspecials, ⟨rfl, rfl⟩, rfl, rfl, rfl, rfl⟩, fun _ _ => rfl, rfl⟩
theorem Confined.setMac (hmach : .mach ∈ xs) (hmacl : .macl ∈ xs) (v : Quad) :
    Confined s (t.setMac v) ks fs bits xs first size :=
  (h.setSpecial hmach (highWord v)).setSpecial hmacl (lowWord v)
/-- Writes of memory, and so perhaps of the bank registers in it. -/
theorem Confined.written {m : Memory} {c : BitVec 16} {e : BitVec 2} {o : Bool}
    (hu : u = { t with mem := m, ibcr := c, ibnrBe := e, ibnrBove := o }) (hmem : SameMemoryOutside t u first size) :
    Confined s u ks fs bits xs first size := by
  refine h.trans ⟨?_, hmem, ?_⟩ <;> rw [hu]
  exact ⟨fun _ _ => rfl, fun _ _ => rfl, rfl, fun _ _ => rfl, ⟨rfl, rfl⟩, rfl, rfl, rfl, rfl⟩

/-- The end of an instruction that holds nothing. -/
theorem Confined.after (len : Word) : Confined s (t.after len) ks fs bits xs first size := by
  rw [← State.goto_nextPc]
  exact h.trans ⟨⟨fun _ _ => rfl, fun _ _ => rfl, rfl, fun _ _ => rfl, ⟨rfl, rfl⟩, rfl, rfl, rfl, rfl⟩, fun _ _ => rfl,
    rfl⟩

end Chain

/-! The end of an instruction. -/

section Answers

variable {s t u : State} {ks : List GReg} {fs : List FReg} {bits : Word} {xs : List Special} {first : Word} {size : Nat}

theorem Confined.next (h : Confined s u ks fs bits xs first size) (hh : s.held = false) {len : Word}
    (ht : u.done len = .next t) : SameBut s t ks fs bits xs ∧ SameMemoryOutside s t first size := by
  rw [State.done_after (h.held.trans hh), Host.Outcome.next.injEq] at ht
  rw [← ht]
  exact ⟨(h.after len).same, (h.after len).memory⟩

/-- An instruction that writes no memory. -/
theorem Confined.nextSame (h : Confined s u ks fs bits xs 0 0) (hh : s.held = false) {len : Word}
    (ht : u.done len = .next t) : SameBut s t ks fs bits xs ∧ SameMemory s t := by
  obtain ⟨hsame, hmem⟩ := h.next hh ht
  exact ⟨hsame, fun a => hmem a (fun k hk => absurd hk (Nat.not_lt_zero k))⟩

end Answers

/-- A clip writes its register and CS (R314, R316). -/
theorem Confined.clipSigned {s : State} {n : GReg} (low high : Word) :
    Confined s (s.clipSigned n low high) [n] [] 0x2000 [] 0 0 := by
  have hn : n ∈ [n] := List.mem_singleton_self n
  have clip (v : Word) : Confined s ((s.setReg n v).setCs true) [n] [] 0x2000 [] 0 0 :=
    ((Confined.refl s).setReg hn v).setCs (by decide) true
  unfold State.clipSigned
  split
  · exact clip high
  · split
    · exact clip low
    · exact Confined.refl s
theorem Confined.clipUnsigned {s : State} {n : GReg} (high : Word) :
    Confined s (s.clipUnsigned n high) [n] [] 0x2000 [] 0 0 := by
  unfold State.clipUnsigned
  split
  · exact ((Confined.refl s).setReg (List.mem_singleton_self n) high).setCs (by decide) true
  · exact Confined.refl s

/-- Settles O38: each writes a register, bits of SR or a control register, in the order of the list. -/
theorem register_frame : Obligations.register_frame := by
  unfold Obligations.register_frame
  intro m n i8 d8 i3 s t hh
  have value {k : GReg} {v : Word} (ht : s.putReg 2 k v = .next t) : SameBut s t [k] [] 0 [] ∧ SameMemory s t :=
    ((Confined.refl s).setReg (List.mem_singleton_self k) v).nextSame hh ht
  have valueT {k : GReg} {v : Word} {b : Bool} (ht : (s.setT b).putReg 2 k v = .next t) :
      SameBut s t [k] [] 1 [] ∧ SameMemory s t :=
    (((Confined.refl s).setT (by decide) b).setReg (List.mem_singleton_self k) v).nextSame hh ht
  have test {b : Bool} (ht : (s.setT b).done 2 = .next t) : SameBut s t [] [] 1 [] ∧ SameMemory s t :=
    ((Confined.refl s).setT (by decide) b).nextSame hh ht
  have signs {p q r : Bool} (ht : (((s.setQ p).setM q).setT r).done 2 = .next t) :
      SameBut s t [] [] 0x301 [] ∧ SameMemory s t :=
    ((((Confined.refl s).setQ (by decide) p).setM (by decide) q).setT (by decide) r).nextSame hh ht
  have nothing (ht : s.done 2 = .next t) : SameBut s t [] [] 0 [] ∧ SameMemory s t := (Confined.refl s).nextSame hh ht
  have special (x : Special) {v : Word} (ht : (s.setSpecial x v).done 2 = .next t) :
      SameBut s t [] [] 0 [x] ∧ SameMemory s t :=
    ((Confined.refl s).setSpecial (List.mem_singleton_self x) v).nextSame hh ht
  have product {v : Quad} (ht : (s.setMac v).done 2 = .next t) :
      SameBut s t [] [] 0 [.mach, .macl] ∧ SameMemory s t :=
    ((Confined.refl s).setMac (by decide) (by decide) v).nextSame hh ht
  simp only [List.forall_mem_cons]
  refine ⟨
    -- MOV, MOVRT, MOVT, SWAP, XTRCT: a value into a register.
    value, value, value, value, value, value, value,
    -- ADD, NEG, SUB, EXTS, EXTU, MULR; AND, NOT, OR, XOR.
    value, value, value, value, value, value, value, value, value, value, value, value, value,
    -- SHLL2 to SHLR16, SHAD, SHLD; STC, STS; BCLR, BSET, BST.
    value, value, value, value, value, value, value, value, value, value, value, value, value, value, value, value,
    value, value,
    -- MOVA and the immediates into R0.
    value, value, value, value,
    -- ADDC, ADDV, NEGC, SUBC, SUBV, DT; ROT, SHA, SHL: a value and T.
    valueT, valueT, valueT, valueT, valueT, valueT, valueT, valueT, valueT, valueT, valueT, valueT, valueT, valueT,
    (Confined.clipSigned _ _).nextSame hh, (Confined.clipSigned _ _).nextSame hh, (Confined.clipUnsigned _).nextSame hh,
    (Confined.clipUnsigned _).nextSame hh,
    -- CMP, TST, BLD, NOTT, CLRT, SETT: T.
    test, test, test, test, test, test, test, test, test, test, test, test, test, test, test,
    -- Step division; PREF, NOP, SLEEP.
    signs, signs, ?div1, nothing, nothing, ?sleep,
    -- The products, and CLRMAC.
    product, product, product, special .macl, special .macl, special .macl,
    -- LDC and LDS.
    ?ldcSr, special .gbr, special .vbr, special .tbr, special .mach, special .macl, special .pr, List.forall_mem_nil _⟩
  case div1 =>
    have hn : n ∈ [n] := List.mem_singleton_self n
    exact (((((Confined.refl s).setReg hn _).setReg hn _).setQ (by decide) _).setT (by decide) _).nextSame hh
  case sleep =>
    have hlow : Confined s { s with power := .lowPower } [] [] 0 [] 0 0 := { Confined.refl s with }
    exact hlow.nextSame hh
  case ldcSr => exact ((Confined.refl s).withSr (by simp)).nextSame hh

end Sys2Proof.Machine

/-! ### Loads and stores: what they leave unchanged -/

namespace Sys2Proof.Machine

open Sys2Proof

theorem State.testByte_ok {s : State} {a : Word} (h : s.canAccess 1 a = true) (f : Byte → Bool) :
    s.testByte a f = s.setT (f (s.peek a)) := by
  simp only [State.testByte, State.read8_ok h]
theorem State.modifyByte_ok {s : State} {a : Word} (h : s.canAccess 1 a = true) (f : Byte → Byte) :
    s.modifyByte a f = s.poke a (f (s.peek a)) := by
  simp only [State.modifyByte, State.read8_ok h, State.store8_ok h]
theorem execTasB_ok {s : State} {n : GReg} (h : s.canAccess 1 (s.reg n) = true) : execTasB n s =
    ((s.setT (s.peek (s.reg n) == 0)).poke (s.reg n) (s.peek (s.reg n) ||| 0x80)).done 2 := by
  have hstore : (s.setT (s.peek (s.reg n) == 0)).canAccess 1 (s.reg n) = true := h
  simp only [execTasB, State.read8_ok h, State.store8_ok hstore]

/-- A load moves its address register beside the destination. -/
theorem Confined.loadPostInc {s t : State} (hh : s.held = false) {m n : GReg} {size v : Word} {r : Word × State}
    (hr : r = (v, s)) (ht : loadPostInc m n size r = .next t) : SameBut s t [n, m] [] 0 [] ∧ SameMemory s t := by
  have hn : n ∈ [n, m] := List.mem_cons_self
  have hm : m ∈ [n, m] := List.mem_cons_of_mem n (List.mem_singleton_self m)
  rw [hr] at ht
  unfold Machine.loadPostInc at ht
  simp only at ht
  split at ht
  · exact ((Confined.refl s).setReg hn v).nextSame hh ht
  · exact (((Confined.refl s).setReg hn v).setReg hm _).nextSame hh ht

/-- Settles O39: an allowed load is a write of its destinations with the datum, and of a moved address register. -/
theorem load_frame : Obligations.load_frame := by
  unfold Obligations.load_frame
  intro m n i3 i8 d4 d8 d12 s t hh hs
  have outside {r : Res} (ht : s.outsideSlot 4 r = .next t) : r = .next t := by rwa [State.outsideSlot_none hs] at ht
  have load {len v : Word} {k : GReg} {r : Word × State} (hr : r = (v, s)) (ht : loadInto len k r = .next t) :
      SameBut s t [k] [] 0 [] ∧ SameMemory s t := by
    rw [hr] at ht
    exact ((Confined.refl s).setReg (List.mem_singleton_self k) v).nextSame hh ht
  have preDec {size v : Word} {r : Word × State} (hr : r = (v, s.preDec m size)) (ht : loadInto 2 0 r = .next t) :
      SameBut s t [m, 0] [] 0 [] ∧ SameMemory s t := by
    rw [hr] at ht
    exact (((Confined.refl s).setReg List.mem_cons_self _).setReg (by simp) v).nextSame hh ht
  have control (x : Special) {put : State → Word → State} (hput : ∀ v, ∃ w, put s v = s.setSpecial x w)
      (hc : s.canAccess 4 (s.reg m) = true) (ht : (s.loadControl m put).done 2 = .next t) :
      SameBut s t [m] [] 0 [x] ∧ SameMemory s t := by
    obtain ⟨w, hw⟩ := hput (s.peek32 (s.reg m))
    rw [State.loadControl_ok hc, hw] at ht
    exact (((Confined.refl s).setSpecial (List.mem_singleton_self x) w).setReg (List.mem_singleton_self m) _).nextSame
      hh ht
  have test {len a : Word} {f : Byte → Bool} (hc : s.canAccess 1 a = true)
      (ht : (s.testByte a f).done len = .next t) : SameBut s t [] [] 1 [] ∧ SameMemory s t := by
    rw [State.testByte_ok hc] at ht
    exact ((Confined.refl s).setT (by decide) _).nextSame hh ht
  simp only [List.forall_mem_cons]
  refine ⟨⟨fun hc => load (State.load16s_ok hc), fun hc => load (State.load32_ok hc),
    -- MOV.B.
    fun hc => load (State.load8s_ok hc), fun hc => Confined.loadPostInc hh (State.load8s_ok hc),
    fun hc => load (State.load8s_ok hc), fun hc => load (State.load8s_ok hc),
    fun hc => preDec (State.load8s_ok (s := s.preDec m 1) hc), fun hc ht => load (State.load8s_ok hc) (outside ht),
    fun hc => load (State.load8s_ok hc),
    -- MOV.W.
    fun hc => load (State.load16s_ok hc), fun hc => Confined.loadPostInc hh (State.load16s_ok hc),
    fun hc => load (State.load16s_ok hc), fun hc => load (State.load16s_ok hc),
    fun hc => preDec (State.load16s_ok (s := s.preDec m 2) hc), fun hc ht => load (State.load16s_ok hc) (outside ht),
    fun hc => load (State.load16s_ok hc),
    -- MOV.L.
    fun hc => load (State.load32_ok hc), fun hc => Confined.loadPostInc hh (State.load32_ok hc),
    fun hc => load (State.load32_ok hc), fun hc => load (State.load32_ok hc),
    fun hc => preDec (State.load32_ok (s := s.preDec m 4) hc), fun hc ht => load (State.load32_ok hc) (outside ht),
    fun hc => load (State.load32_ok hc),
    -- MOVU.
    fun hc ht => load (State.load8u_ok hc) (outside ht), fun hc ht => load (State.load16u_ok hc) (outside ht),
    -- LDC.L and LDS.L.
    control .gbr fun v => ⟨v, rfl⟩, control .vbr fun v => ⟨v, rfl⟩, control .mach fun v => ⟨v, rfl⟩,
    control .macl fun v => ⟨v, rfl⟩, control .pr fun v => ⟨v, rfl⟩, ?ldcLSr,
    -- TST.B and the bit loads.
    test, fun hc ht => test hc (outside ht), fun hc ht => test hc (outside ht), fun hc ht => test hc (outside ht),
    fun hc ht => test hc (outside ht), fun hc ht => test hc (outside ht), fun hc ht => test hc (outside ht),
    fun hc ht => test hc (outside ht), List.forall_mem_nil _⟩, fun hf => ?fpu⟩
  case ldcLSr =>
    intro hc ht
    have hload : s.loadControl m State.setSr = _ := State.loadControl_ok hc State.setSr
    have hconfined : Confined s (s.loadControl m State.setSr) [m] [] 0xFFFFFFFF [] 0 0 := by
      rw [hload]
      exact ((Confined.refl s).withSr (by simp)).setReg (List.mem_singleton_self m) _
    exact hconfined.nextSame hh ht
  case fpu =>
    have fpu {len : Word} {r : Res} (ht : s.withFpu len r = .next t) : r = .next t := by
      rwa [State.withFpu_ready hf] at ht
    have single {len v : Word} {r : Word × State} (hr : r = (v, s)) (ht : (frInto n r).done len = .next t) :
        SameBut s t [] [n] 0 [] ∧ SameMemory s t := by
      rw [hr] at ht
      exact ((Confined.refl s).setFreg (List.mem_singleton_self n) v).nextSame hh ht
    have pair {len : Word} {v : Quad} {r : Quad × State} (hr : r = (v, s)) (ht : (drInto n r).done len = .next t) :
        SameBut s t [] [pairHigh n, pairLow n] 0 [] ∧ SameMemory s t := by
      rw [hr] at ht
      exact ((Confined.refl s).setDreg List.mem_cons_self (by simp) v).nextSame hh ht
    have singlePostInc {v w : Word} {r : Word × State} (hr : r = (v, s))
        (ht : ((frInto n r).setReg m w).done 2 = .next t) : SameBut s t [m] [n] 0 [] ∧ SameMemory s t := by
      rw [hr] at ht
      exact (((Confined.refl s).setFreg (List.mem_singleton_self n) v).setReg (List.mem_singleton_self m) w).nextSame
        hh ht
    have pairPostInc {v : Quad} {w : Word} {r : Quad × State} (hr : r = (v, s))
        (ht : ((drInto n r).setReg m w).done 2 = .next t) :
        SameBut s t [m] [pairHigh n, pairLow n] 0 [] ∧ SameMemory s t := by
      rw [hr] at ht
      exact (((Confined.refl s).setDreg List.mem_cons_self (by simp) v).setReg (List.mem_singleton_self m) w).nextSame
        hh ht
    exact ⟨fun hc ht => single (State.load32_ok hc) (fpu ht), fun hc ht => singlePostInc (State.load32_ok hc) (fpu ht),
      fun hc ht => single (State.load32_ok hc) (fpu ht), fun hc ht => single (State.load32_ok hc) (outside (fpu ht)),
      fun hc ht => pair (State.load64_ok hc) (fpu ht), fun hc ht => pairPostInc (State.load64_ok hc) (fpu ht),
      fun hc ht => pair (State.load64_ok hc) (fpu ht), fun hc ht => pair (State.load64_ok hc) (outside (fpu ht)),
      fun hc ht => control .fpul (fun v => ⟨v, rfl⟩) hc (fpu ht),
      fun hc ht => control .fpscr (fun v => ⟨v &&& s.cfg.fpscrMask, rfl⟩) hc (fpu ht), List.forall_mem_nil _⟩

/-! The bytes of a store. -/

theorem State.sameMemoryOutside_poke {s : State} (hm : Memory.wf s.mem) (a : Word) (v : Byte) :
    SameMemoryOutside s (s.poke a v) a 1 :=
  fun b hb => s.peek_poke_other a b v (by simpa using hb 0 (by decide)) hm
theorem State.sameMemoryOutside_poke16 {s : State} (hm : Memory.wf s.mem) (a : Word) (v : Half) :
    SameMemoryOutside s (s.poke16 a v) a 2 :=
  fun b hb => s.peek_poke16_other a b v (by simpa using hb 0 (by decide)) (hb 1 (by decide)) hm
theorem State.sameMemoryOutside_poke32 {s : State} (hm : Memory.wf s.mem) (a v : Word) :
    SameMemoryOutside s (s.poke32 a v) a 4 :=
  fun b hb => s.peek_poke32_other a b v (by simpa using hb 0 (by decide)) (hb 1 (by decide)) (hb 2 (by decide))
    (hb 3 (by decide)) hm
theorem State.sameMemoryOutside_poke64 {s : State} (hm : Memory.wf s.mem) (a : Word) (v : Quad) :
    SameMemoryOutside s (s.poke64 a v) a 8 :=
  fun b hb => s.peek_poke64_other a b v hb hm

section Stores

variable {s t : State} {ks : List GReg} {fs : List FReg} {bits : Word} {xs : List Special} {a : Word}

theorem Confined.poke (h : Confined s t ks fs bits xs a 1) (hm : Memory.wf t.mem) (v : Byte) :
    Confined s (t.poke a v) ks fs bits xs a 1 := by
  obtain ⟨_, _, _, _, hpoke⟩ := t.poke_frame a v
  exact h.written hpoke (State.sameMemoryOutside_poke hm a v)
theorem Confined.poke16 (h : Confined s t ks fs bits xs a 2) (hm : Memory.wf t.mem) (v : Half) :
    Confined s (t.poke16 a v) ks fs bits xs a 2 := by
  obtain ⟨_, _, _, _, hhigh⟩ := t.poke_frame a (highByte v)
  obtain ⟨_, _, _, _, hlow⟩ := (t.poke a (highByte v)).poke_frame (a + 1) (lowByte v)
  exact h.written (by rw [State.poke16, hlow, hhigh]) (State.sameMemoryOutside_poke16 hm a v)
theorem Confined.poke32 (h : Confined s t ks fs bits xs a 4) (hm : Memory.wf t.mem) (v : Word) :
    Confined s (t.poke32 a v) ks fs bits xs a 4 := by
  obtain ⟨_, _, _, _, hpoke⟩ := t.poke32_frame a v
  exact h.written hpoke (State.sameMemoryOutside_poke32 hm a v)
theorem Confined.poke64 (h : Confined s t ks fs bits xs a 8) (hm : Memory.wf t.mem) (v : Quad) :
    Confined s (t.poke64 a v) ks fs bits xs a 8 := by
  obtain ⟨_, _, _, _, hhigh⟩ := t.poke32_frame a (highWord v)
  obtain ⟨_, _, _, _, hlow⟩ := (t.poke32 a (highWord v)).poke32_frame (a + 4) (lowWord v)
  exact h.written (by rw [State.poke64, hlow, hhigh]) (State.sameMemoryOutside_poke64 hm a v)

end Stores

/-- Settles O40: an allowed store writes its bytes at its address, and its address register where that moves. -/
theorem store_frame : Obligations.store_frame := by
  unfold Obligations.store_frame
  intro m n i3 i8 d4 d8 d12 s t hh hs hm
  have outside {r : Res} (ht : s.outsideSlot 4 r = .next t) : r = .next t := by rwa [State.outsideSlot_none hs] at ht
  -- A store that comes to a write of memory, and the same with a moved address register.
  have store {u v : State} {a len : Word} {size : Nat} (hv : Confined s v [] [] 0 [] a size) (hu : u = v)
      (ht : u.done len = .next t) : SameBut s t [] [] 0 [] ∧ SameMemoryOutside s t a size := by
    rw [hu] at ht
    exact hv.next hh ht
  have moving {u v : State} {a w : Word} {size : Nat} (hv : Confined s v [n] [] 0 [] a size) (hu : u = v)
      (ht : (u.setReg n w).done 2 = .next t) : SameBut s t [n] [] 0 [] ∧ SameMemoryOutside s t a size := by
    rw [hu] at ht
    exact (hv.setReg (List.mem_singleton_self n) w).next hh ht
  have byte {a : Word} {ks : List GReg} (v : Byte) : Confined s (s.poke a v) ks [] 0 [] a 1 :=
    (Confined.refl s).poke hm v
  have word {a : Word} {ks : List GReg} (v : Half) : Confined s (s.poke16 a v) ks [] 0 [] a 2 :=
    (Confined.refl s).poke16 hm v
  have longword {a : Word} {ks : List GReg} (v : Word) : Confined s (s.poke32 a v) ks [] 0 [] a 4 :=
    (Confined.refl s).poke32 hm v
  have quad {a : Word} {ks : List GReg} (v : Quad) : Confined s (s.poke64 a v) ks [] 0 [] a 8 :=
    (Confined.refl s).poke64 hm v
  simp only [List.forall_mem_cons]
  refine ⟨⟨
    -- MOV.B.
    fun hc => store (byte _) (State.store8_ok hc _), fun hc => moving (byte _) (State.store8_ok hc _),
    fun hc => store (byte _) (State.store8_ok hc _), fun hc => store (byte _) (State.store8_ok hc _),
    fun hc => store (byte _) (State.store8_ok hc _), fun hc => moving (byte _) (State.store8_ok hc _),
    fun hc ht => store (byte _) (State.store8_ok hc _) (outside ht),
    -- MOV.W.
    fun hc => store (word _) (State.store16_ok hc _), fun hc => moving (word _) (State.store16_ok hc _),
    fun hc => store (word _) (State.store16_ok hc _), fun hc => store (word _) (State.store16_ok hc _),
    fun hc => store (word _) (State.store16_ok hc _), fun hc => moving (word _) (State.store16_ok hc _),
    fun hc ht => store (word _) (State.store16_ok hc _) (outside ht),
    -- MOV.L.
    fun hc => store (longword _) (State.store32_ok hc _), fun hc => moving (longword _) (State.store32_ok hc _),
    fun hc => store (longword _) (State.store32_ok hc _), fun hc => store (longword _) (State.store32_ok hc _),
    fun hc => store (longword _) (State.store32_ok hc _), fun hc => moving (longword _) (State.store32_ok hc _),
    fun hc ht => store (longword _) (State.store32_ok hc _) (outside ht),
    -- STC.L and STS.L.
    fun hc => moving (longword _) (State.store32_ok hc _), fun hc => moving (longword _) (State.store32_ok hc _),
    fun hc => moving (longword _) (State.store32_ok hc _), fun hc => moving (longword _) (State.store32_ok hc _),
    fun hc => moving (longword _) (State.store32_ok hc _), fun hc => moving (longword _) (State.store32_ok hc _),
    -- AND.B, OR.B, XOR.B, TAS.B and the bit stores.
    fun hc => store (byte _) (State.modifyByte_ok hc _), fun hc => store (byte _) (State.modifyByte_ok hc _),
    fun hc => store (byte _) (State.modifyByte_ok hc _), ?tasB,
    fun hc ht => store (byte _) (State.modifyByte_ok hc _) (outside ht),
    fun hc ht => store (byte _) (State.modifyByte_ok hc _) (outside ht),
    fun hc ht => store (byte _) (State.modifyByte_ok hc _) (outside ht), List.forall_mem_nil _⟩, fun hf => ?fpu⟩
  case tasB =>
    intro hc ht
    have hrun : exec (.tasB n) s = _ := execTasB_ok hc
    rw [hrun] at ht
    have hset : Confined s (s.setT (s.peek (s.reg n) == 0)) [] [] 1 [] (s.reg n) 1 :=
      (Confined.refl s).setT (by decide) _
    exact (hset.poke hm _).next hh ht
  case fpu =>
    have fpu {len : Word} {r : Res} (ht : s.withFpu len r = .next t) : r = .next t := by
      rwa [State.withFpu_ready hf] at ht
    exact ⟨fun hc ht => store (longword _) (State.store32_ok hc _) (fpu ht),
      fun hc ht => moving (longword _) (State.store32_ok hc _) (fpu ht),
      fun hc ht => store (longword _) (State.store32_ok hc _) (fpu ht),
      fun hc ht => store (longword _) (State.store32_ok hc _) (outside (fpu ht)),
      fun hc ht => store (quad _) (State.store64_ok hc _) (fpu ht),
      fun hc ht => moving (quad _) (State.store64_ok hc _) (fpu ht),
      fun hc ht => store (quad _) (State.store64_ok hc _) (fpu ht),
      fun hc ht => store (quad _) (State.store64_ok hc _) (outside (fpu ht)),
      fun hc ht => moving (longword _) (State.store32_ok hc _) (fpu ht),
      fun hc ht => moving (longword _) (State.store32_ok hc _) (fpu ht), List.forall_mem_nil _⟩

end Sys2Proof.Machine

/-! ### Registers pushed, whichever of the accesses are allowed -/

namespace Sys2Proof.Machine

open Sys2Proof

/-- What an access needs depends on the product alone. -/
theorem State.canAccess_congr {s t : State} (h : t.cfg = s.cfg) (n : Nat) (a : Word) :
    t.canAccess n a = s.canAccess n a := by
  rw [State.canAccess, State.canAccess, h]

/-- R15 is in no register list: PR stands in its place (R252). -/
theorem ofNat_ne_fifteen {k : Nat} (hk : k < 15) : BitVec.ofNat 4 k ≠ 15 := by bv_omega

theorem State.listReg_setReg15 (s : State) {k : Nat} (hk : k < 16) (v : Word) :
    (s.setReg 15 v).listReg k = s.listReg k := by
  unfold State.listReg
  split
  · rfl
  · exact s.reg_setReg_other 15 _ v (ofNat_ne_fifteen (by omega))

/-- `t` is `s` with the longwords of a list pushed, one below the other, where that is allowed: R15 moves past all of
them, an access that is not allowed is recorded, and no other byte changes. -/
structure PushedAllowed (s t : State) (vs : List Word) : Prop where
  only : ∃ m h, t = { s.setReg 15 (s.below vs.length) with mem := m, held := h }
  read : ∀ (k : Nat) (v : Word), vs[k]? = some v → s.canAccess 4 (s.below (k + 1)) = true →
    t.peek32 (s.below (k + 1)) = v
  keep : ∀ a : Word, (∀ k < vs.length, s.canAccess 4 (s.below (k + 1)) = true → 4 ≤ (a - s.below (k + 1)).toNat) →
    t.peek a = s.peek a
  held : t.held = true ↔ s.held = true ∨ ∃ k < vs.length, s.canAccess 4 (s.below (k + 1)) = false

theorem PushedAllowed.cfg {s t : State} {vs : List Word} (h : PushedAllowed s t vs) : t.cfg = s.cfg := by
  obtain ⟨m, b, ht⟩ := h.only
  rw [ht]; rfl
theorem PushedAllowed.sp {s t : State} {vs : List Word} (h : PushedAllowed s t vs) : t.sp = s.below vs.length := by
  obtain ⟨m, b, ht⟩ := h.only
  rw [ht]; exact State.reg_setReg_same _ _ _
theorem PushedAllowed.below {s t : State} {v : Word} (h : PushedAllowed s t [v]) (k : Nat) :
    t.below k = s.below (k + 1) := by
  rw [State.below, h.sp]
  simp only [State.below, List.length_singleton]
  bv_omega
theorem PushedAllowed.listReg {s t : State} {vs : List Word} (h : PushedAllowed s t vs) {k : Nat} (hk : k < 16) :
    t.listReg k = s.listReg k := by
  obtain ⟨m, b, ht⟩ := h.only
  rw [ht]
  exact s.listReg_setReg15 hk _

theorem PushedAllowed.nil (s : State) : PushedAllowed s s [] where
  only := ⟨s.mem, s.held, by simp [State.setReg, State.below, State.sp, State.reg]⟩
  read := fun k v h => by simp at h
  keep := fun _ _ => rfl
  held := by simp

/-- One push: the store where it is allowed, and R15 four lower in any case (R252). -/
theorem State.push_allowed {s : State} (v : Word) (hm : Memory.wf s.mem) (hp : s.plain (s.sp - 4) 4) :
    PushedAllowed s (s.push v) [v] ∧ Memory.wf (s.push v).mem := by
  have hbelow : s.below 1 = s.sp - 4 := rfl
  have hone {P : Nat → Prop} : (∃ k < [v].length, P k) ↔ P 0 := by simp
  cases hc : s.canAccess 4 (s.sp - 4) with
  | true =>
    obtain ⟨m, hpoke, hwf, hread, hkeep⟩ := State.poke32_plain v hp hm
    have hpush : s.push v = State.setReg { s with mem := m } 15 (s.sp - 4) := by
      rw [State.push, State.store32_ok hc, hpoke]
    rw [hpush]
    refine ⟨⟨⟨m, s.held, rfl⟩, fun k w hk _ => ?_, fun a ha => hkeep a (ha 0 Nat.zero_lt_one hc), ?_⟩, hwf⟩
    · obtain ⟨rfl, rfl⟩ : k = 0 ∧ v = w := by cases k <;> simp_all
      exact hread
    · rw [hone, Nat.zero_add, hbelow, hc]
      simp
  | false =>
    have hpush : s.push v = State.setReg s.addressError 15 (s.sp - 4) := by
      rw [State.push, State.store32_bad hc]
    rw [hpush]
    refine ⟨⟨⟨s.mem, true, rfl⟩, fun k w hk hallowed => ?_, fun _ _ => rfl, ?_⟩, hm⟩
    · obtain rfl : k = 0 := by cases k <;> simp_all
      cases hallowed.symm.trans hc
    · rw [hone, Nat.zero_add, hbelow, hc]
      simp

/-- A push and then the pushes of a list are the pushes of the longer list. -/
theorem PushedAllowed.cons {s t u : State} {v : Word} {vs : List Word} (h : PushedAllowed s t [v])
    (hs : PushedAllowed t u vs) (hlen : 4 * (vs.length + 1) ≤ 2 ^ 32) : PushedAllowed s u (v :: vs) := by
  have hbelow := h.below
  have haccess := State.canAccess_congr h.cfg 4
  obtain ⟨only, read, keep, held⟩ := hs
  simp only [hbelow, haccess] at only read keep held
  refine ⟨?only, fun k w hk hc => ?read, fun a ha => ?keep, ?held⟩
  case only =>
    obtain ⟨m, b, ht⟩ := h.only
    obtain ⟨m', b', hu⟩ := only
    refine ⟨m', b', ?_⟩
    rw [hu, ht, List.length_cons]
    simp [State.setReg]
  case read =>
    cases k with
    | zero =>
      have hv : v = w := by simpa using hk
      rw [← hv, ← h.read 0 v rfl hc]
      refine State.peek32_congr fun b hb => keep b fun j hj _ => ?_
      simp only [State.below] at hb ⊢
      bv_omega
    | succ k => exact read k w (by simpa using hk) hc
  case keep =>
    rw [keep a fun k hk => ha (k + 1) (Nat.succ_lt_succ hk)]
    refine h.keep a fun k hk => ha k ?_
    simp only [List.length_cons, List.length_nil] at hk ⊢
    omega
  case held =>
    rw [held, h.held]
    constructor
    · rintro ((hheld | ⟨k, hk, hc⟩) | ⟨k, hk, hc⟩)
      · exact .inl hheld
      · exact .inr ⟨k, by simp only [List.length_cons, List.length_nil] at hk ⊢; omega, hc⟩
      · exact .inr ⟨k + 1, Nat.succ_lt_succ hk, hc⟩
    · rintro (hheld | ⟨k, hk, hc⟩)
      · exact .inl (.inl hheld)
      · cases k with
        | zero => exact .inl (.inr ⟨0, Nat.zero_lt_one, hc⟩)
        | succ k => exact .inr ⟨k, Nat.lt_of_succ_lt_succ hk, hc⟩

/-- The registers of a list pushed in plain memory (R252, R254). -/
theorem State.pushList_allowed (ks : List Nat) : ∀ {s : State}, (∀ k ∈ ks, k < 16) → 4 * ks.length ≤ 2 ^ 32 →
    Memory.wf s.mem → s.plain (s.below ks.length) (4 * ks.length) →
    PushedAllowed s (s.pushList ks) (ks.map s.listReg) := by
  induction ks with
  | nil => exact fun {s} _ _ _ _ => PushedAllowed.nil s
  | cons k ks ih =>
    intro s hks hlen hm hplain
    rw [List.length_cons] at hlen
    rw [State.plain_iff, List.length_cons] at hplain
    have hplain4 : s.plain (s.sp - 4) 4 :=
      (State.plain_iff _ _ _).mpr fun a ha => hplain a (by simp only [State.below]; bv_omega)
    obtain ⟨hfirst, hwf⟩ := State.push_allowed (s.listReg k) hm hplain4
    have hrest : ks.map (s.push (s.listReg k)).listReg = ks.map s.listReg :=
      List.map_congr_left fun j hj => hfirst.listReg (hks j (List.mem_cons_of_mem k hj))
    have hplain' : (s.push (s.listReg k)).plain ((s.push (s.listReg k)).below ks.length) (4 * ks.length) := by
      rw [State.plain_iff, hfirst.cfg, hfirst.below]
      exact fun a ha => hplain a (by omega)
    have hpushed := ih (fun j hj => hks j (List.mem_cons_of_mem k hj)) (by omega) hwf hplain'
    rw [hrest] at hpushed
    exact hfirst.cons hpushed (by simpa using hlen)

/-- Control going on after an instruction that may have raised something. -/
theorem State.after_eq_goto (s : State) (len : Word) : s.after len = s.goto (s.following len) := by
  unfold State.after State.following
  cases s.slot <;> rfl

/-- What an instruction leaves that has pushed the longwords of a list. -/
structure StoredBelow (s t : State) (vs : List Word) : Prop where
  sp : t.reg 15 = s.below vs.length
  read : ∀ (k : Nat) (v : Word), vs[k]? = some v → s.canAccess 4 (s.below (k + 1)) = true →
    t.peek32 (s.below (k + 1)) = v
  keep : ∀ a : Word, (∀ k < vs.length, s.canAccess 4 (s.below (k + 1)) = true → 4 ≤ (a - s.below (k + 1)).toNat) →
    t.peek a = s.peek a
  regs : SameRegs s t [15]
  specials : SameSpecials s t []
  fregs : SameFregs s t []
  status : SameStatus s t 0
  banks : SameBanks s t
  platform : SamePlatform s t
  pc : t.pc = (s.after 2).pc
  slot : t.slot = .none
  power : t.power = s.power

theorem PushedAllowed.after {s t : State} {vs : List Word} (h : PushedAllowed s t vs) :
    StoredBelow s (t.after 2) vs := by
  have hsp := h.sp
  obtain ⟨⟨m, b, ht⟩, hread, hkeep, -⟩ := h
  rw [State.after_eq_goto]
  have hpc : t.following 2 = s.following 2 := State.following_congr (by rw [ht]; rfl) (by rw [ht]; rfl) 2
  refine ⟨hsp, hread, hkeep, fun k hk => ?_, ?_, ?_, ?_, ?_, ?_, hpc.trans (s.after_pc 2).symm, rfl, ?_⟩ <;> rw [ht]
  · exact s.reg_setReg_other 15 k _ (by simpa using hk)
  · exact fun _ _ => rfl
  · exact fun _ _ => rfl
  · rfl
  · exact ⟨rfl, rfl⟩
  · exact ⟨rfl, rfl, rfl, rfl⟩
  · rfl

/-- Outside the pushed longwords memory is as before. -/
theorem StoredBelow.outside {s t : State} {vs : List Word} (h : StoredBelow s t vs) :
    SameMemoryOutside s t (s.below vs.length) (4 * vs.length) := by
  intro a ha
  rw [outside_range_iff] at ha
  refine h.keep a fun k hk _ => ?_
  simp only [State.below] at ha ⊢
  bv_omega

end Sys2Proof.Machine

/-! ### Registers popped, whichever of the accesses are allowed -/

namespace Sys2Proof.Machine

open Sys2Proof

/-- The address `k` longwords above R15. -/
def State.above (s : State) (k : Nat) : Word := s.sp + BitVec.ofNat 32 (4 * k)

theorem State.above_succ {s t : State} {k : Nat} (h : t.sp = s.above k) (j : Nat) : t.above j = s.above (k + j) := by
  rw [State.above, h, State.above, State.above, BitVec.add_assoc, ← BitVec.ofNat_add, Nat.mul_add]

/-- A read for a destination: the datum, or an open value where the access is not allowed (R725 point 2). -/
theorem State.load32_allowed (s : State) (a : Word) : ∃ v h c,
    s.load32 a = (v, { s with held := h, freeCount := c }) ∧ (s.canAccess 4 a = true → v = s.peek32 a) ∧
      (h = true ↔ s.held = true ∨ s.canAccess 4 a = false) := by
  cases hc : s.canAccess 4 a with
  | true => exact ⟨s.peek32 a, s.held, s.freeCount, State.load32_ok hc, fun _ => rfl, by simp⟩
  | false => exact ⟨s.open32, true, s.freeCount + 1, State.load32_bad hc, (nomatch ·), by simp⟩

/-- A pop: the register written with what is read, and R15 four higher in any case (R253, R485). -/
theorem State.popInto_allowed (s : State) (put : State → Word → State) : ∃ v h c,
    s.popInto put = (put { s with held := h, freeCount := c } v).setReg 15 (s.above 1) ∧
      (s.canAccess 4 s.sp = true → v = s.peek32 s.sp) ∧
      (h = true ↔ s.held = true ∨ s.canAccess 4 s.sp = false) := by
  obtain ⟨v, h, c, hload, hread⟩ := s.load32_allowed s.sp
  exact ⟨v, h, c, by rw [State.popInto, hload]; rfl, hread⟩

theorem State.popList_cons (s : State) (k : Nat) (ks : List Nat) :
    s.popList (k :: ks) = (s.popInto fun t v => t.setListReg k v).popList ks := rfl

theorem State.setListReg_frame (s : State) (k : Nat) (v : Word) :
    ∃ r p, s.setListReg k v = { s with regs := r, pr := p } := by
  unfold State.setListReg
  split
  · exact ⟨s.regs, v, rfl⟩
  · exact ⟨_, s.pr, rfl⟩

theorem ofNat_inj {j k : Nat} (hj : j < 16) (hk : k < 16) : BitVec.ofNat 4 j = BitVec.ofNat 4 k ↔ j = k := by
  constructor
  · intro h
    bv_omega
  · rintro rfl
    rfl

theorem State.listReg_setListReg (s : State) {j k : Nat} (hj : j < 16) (hk : k < 16) (v : Word) :
    (s.setListReg k v).listReg j = if j = k then v else s.listReg j := by
  unfold State.setListReg State.listReg
  by_cases hk15 : k = 15 <;> by_cases hj15 : j = 15
  · simp [hk15, hj15]
  · simp only [hk15, hj15, if_true, if_false]
    rfl
  · simp only [hk15, hj15, if_true, if_false]
    rw [if_neg (Ne.symm hk15)]
    rfl
  · simp only [hk15, hj15, if_false, State.reg_setReg, ofNat_inj hk hj, eq_comm (a := k)]

/-- `t` is `s` with the registers of a list popped, one above the other: R15 moves past all of them, each register holds
its datum where the access is allowed, and what is not allowed is recorded. -/
structure PoppedAllowed (s t : State) (ks : List Nat) : Prop where
  only : ∃ r p h c, t = { s with regs := r, pr := p, held := h, freeCount := c }
  sp : t.sp = s.above ks.length
  read : ∀ i k : Nat, ks[i]? = some k → s.canAccess 4 (s.above i) = true → t.listReg k = s.peek32 (s.above i)
  others : ∀ k < 16, k ∉ ks → t.listReg k = s.listReg k
  held : t.held = true ↔ s.held = true ∨ ∃ i < ks.length, s.canAccess 4 (s.above i) = false

theorem PoppedAllowed.nil (s : State) : PoppedAllowed s s [] where
  only := ⟨s.regs, s.pr, s.held, s.freeCount, rfl⟩
  sp := (BitVec.add_zero _).symm
  read := fun i k h => by simp at h
  others := fun _ _ _ => rfl
  held := by simp

theorem PoppedAllowed.one (s : State) {k : Nat} (hk : k < 16) :
    PoppedAllowed s (s.popInto fun t v => t.setListReg k v) [k] := by
  obtain ⟨v, h, c, hpop, hv, hheld⟩ := s.popInto_allowed fun t v => t.setListReg k v
  have hsp : s.above 0 = s.sp := BitVec.add_zero _
  have hset {j : Nat} (hj : j < 16) : (s.popInto fun t v => t.setListReg k v).listReg j =
      if j = k then v else s.listReg j := by
    rw [hpop, State.listReg_setReg15 _ hj, State.listReg_setListReg _ hj hk]
    rfl
  refine ⟨?_, by rw [hpop]; exact State.reg_setReg_same _ _ _, fun i j hi hc => ?_, fun j hj hjk => ?_, ?_⟩
  · obtain ⟨r, p, hframe⟩ := State.setListReg_frame { s with held := h, freeCount := c } k v
    rw [hpop, hframe]
    exact ⟨_, p, h, c, rfl⟩
  · obtain ⟨rfl, rfl⟩ : i = 0 ∧ k = j := by cases i <;> simp_all
    rw [hset hk, if_pos rfl, hsp]
    exact hv (hsp ▸ hc)
  · rw [hset hj, if_neg (by simpa using hjk)]
  · obtain ⟨r, p, hframe⟩ := State.setListReg_frame { s with held := h, freeCount := c } k v
    rw [hpop, hframe]
    simp [hheld, hsp]

/-- A pop and then the pops of a list are the pops of the longer list. -/
theorem PoppedAllowed.cons {s t u : State} {k : Nat} {ks : List Nat} (h : PoppedAllowed s t [k])
    (hs : PoppedAllowed t u ks) (hk : k < 16) (hnew : k ∉ ks) : PoppedAllowed s u (k :: ks) := by
  have habove (i : Nat) : t.above i = s.above (i + 1) := by rw [State.above_succ h.sp i, Nat.add_comm]; rfl
  obtain ⟨r, p, b, c, ht⟩ := h.only
  have haccess : t.canAccess 4 = s.canAccess 4 := by rw [ht]; rfl
  have hpeek : t.peek32 = s.peek32 := by rw [ht]; rfl
  obtain ⟨only, sp, read, others, held⟩ := hs
  simp only [habove, haccess, hpeek] at sp read held
  refine ⟨?only, sp, fun i j hi hc => ?read, fun j hj hjks => ?others, ?held⟩
  case only =>
    obtain ⟨r', p', b', c', hu⟩ := only
    exact ⟨r', p', b', c', by rw [hu, ht]⟩
  case read =>
    cases i with
    | zero =>
      obtain rfl : k = j := by simpa using hi
      rw [others k hk hnew]
      exact h.read 0 k rfl hc
    | succ i => exact read i j (by simpa using hi) hc
  case others =>
    rw [List.mem_cons, not_or] at hjks
    rw [others j hj hjks.2, h.others j hj (by simpa using hjks.1)]
  case held =>
    rw [held, h.held]
    constructor
    · rintro ((hheld | ⟨i, hi, hc⟩) | ⟨i, hi, hc⟩)
      · exact .inl hheld
      · exact .inr ⟨i, by simp only [List.length_cons, List.length_nil] at hi ⊢; omega, hc⟩
      · exact .inr ⟨i + 1, Nat.succ_lt_succ hi, hc⟩
    · rintro (hheld | ⟨i, hi, hc⟩)
      · exact .inl (.inl hheld)
      · cases i with
        | zero => exact .inl (.inr ⟨0, Nat.zero_lt_one, hc⟩)
        | succ i => exact .inr ⟨i, Nat.lt_of_succ_lt_succ hi, hc⟩

/-- The registers of a list popped (R253, R255). -/
theorem State.popList_allowed (ks : List Nat) : ∀ {s : State}, (∀ k ∈ ks, k < 16) → ks.Nodup →
    PoppedAllowed s (s.popList ks) ks := by
  induction ks with
  | nil => exact fun {s} _ _ => PoppedAllowed.nil s
  | cons k ks ih =>
    intro s hks hnodup
    obtain ⟨hnew, hnodup⟩ := List.nodup_cons.mp hnodup
    have hk : k < 16 := hks k List.mem_cons_self
    rw [State.popList_cons]
    exact (PoppedAllowed.one s hk).cons (ih (fun j hj => hks j (List.mem_cons_of_mem k hj)) hnodup) hk hnew

end Sys2Proof.Machine

/-! ### MOVML.L and MOVMU.L -/

namespace Sys2Proof.Machine

open Sys2Proof

/-! The four register lists. -/

theorem getElem?_range_reverse {j m : Nat} (h : j ≤ m) : (List.range (m + 1)).reverse[m - j]? = some j := by
  rw [List.getElem?_reverse (by rw [List.length_range]; omega), List.length_range, List.getElem?_range (by omega)]
  congr 1
  omega
theorem getElem?_range'_reverse {j m : Nat} (h : m ≤ j) (hj : j < 16) :
    (List.range' m (16 - m)).reverse[15 - j]? = some j := by
  rw [List.getElem?_reverse (by rw [List.length_range']; omega), List.length_range',
    List.getElem?_range' (by omega)]
  congr 1
  omega
theorem getElem?_range'_sub {j n : Nat} (h : n ≤ j) (hj : j < 16) : (List.range' n (16 - n))[j - n]? = some j := by
  rw [List.getElem?_range' (by omega)]
  congr 1
  omega

/-! The end of an instruction with what it has raised. -/

theorem State.following_none {s : State} (h : s.slot = .none) (len : Word) : s.following len = s.pc + len := by
  simp [State.following, h]

theorem State.done_raised {s t : State} {len : Word} (h : t.held = true) (hf : t.following len = s.following len) :
    t.done len = .next ((t.after len).raise .cpuAddressError (s.following len)) := by
  have hnext : t.nextPc len = t.following len := by
    unfold State.nextPc State.following
    cases t.slot <;> rfl
  rw [State.done_eq, State.complete_held h, State.goto_nextPc, hnext, hf]

theorem State.after_held (s : State) (len : Word) : (s.after len).held = s.held := by
  rw [State.after_eq_goto]
  rfl

section Push

variable {s t : State} {vs : List Word} (h : PushedAllowed s t vs)
include h

theorem PushedAllowed.following : t.following 2 = s.following 2 := by
  obtain ⟨m, b, ht⟩ := h.only
  rw [ht]
  rfl
theorem PushedAllowed.done_raised (hc : ∃ k < vs.length, s.canAccess 4 (s.below (k + 1)) = false) :
    t.done 2 = .next ((t.after 2).raise .cpuAddressError (s.following 2)) :=
  State.done_raised (h.held.mpr (.inr hc)) h.following
theorem PushedAllowed.quiet (hh : s.held = false) (hc : ∀ k < vs.length, s.canAccess 4 (s.below (k + 1)) = true) :
    t.held = false := by
  rw [Bool.eq_false_iff, Ne, h.held, hh]
  rintro (hheld | ⟨k, hk, hbad⟩)
  · cases hheld
  · cases hbad.symm.trans (hc k hk)

end Push

/-- A list of registers pushed where the sixteen longwords below R15 are memory. -/
theorem State.pushRegs_allowed {s : State} {ks : List Nat} (hks : ∀ k ∈ ks, k < 16) (hlen : ks.length ≤ 16)
    (hm : Memory.wf s.mem) (hp : s.plain (s.reg 15 - 64) 64) :
    PushedAllowed s (s.pushList ks) (ks.map s.listReg) := by
  refine State.pushList_allowed ks hks (by omega) hm ?_
  rw [State.plain_iff] at hp ⊢
  exact fun a ha => hp a (by simp only [State.below, State.sp] at ha; bv_omega)

/-- On an aligned stack where no access is forbidden every pop and push is allowed (R84). -/
theorem State.below_allowed {s : State} (hsp : s.reg 15 &&& 3 = 0) (hd : s.cfg.dataForbidden = []) (k : Nat) :
    s.canAccess 4 (s.below k) = true := by
  rw [aligned_iff] at hsp
  exact State.canAccess_unrestricted hd (by simp only [State.below, State.sp]; bv_omega)
theorem State.above_allowed {s : State} (hsp : s.reg 15 &&& 3 = 0) (hd : s.cfg.dataForbidden = []) (k : Nat) :
    s.canAccess 4 (s.above k) = true := by
  rw [aligned_iff] at hsp
  exact State.canAccess_unrestricted hd (by simp only [State.above, State.sp]; bv_omega)

/-- What an instruction leaves that has popped the registers of a list. -/
structure LoadedAbove (s t : State) (ks : List Nat) : Prop where
  sp : t.reg 15 = s.above ks.length
  read : ∀ i k : Nat, ks[i]? = some k → s.canAccess 4 (s.above i) = true → t.listReg k = s.peek32 (s.above i)
  others : ∀ k < 16, k ∉ ks → t.listReg k = s.listReg k
  specials : SameSpecials s t [.pr]
  memory : SameMemory s t
  fregs : SameFregs s t []
  status : SameStatus s t 0
  banks : SameBanks s t
  platform : SamePlatform s t
  pc : t.pc = (s.after 2).pc
  slot : t.slot = .none
  power : t.power = s.power

section Pop

variable {s t : State} {ks : List Nat} (h : PoppedAllowed s t ks)
include h

theorem PoppedAllowed.following : t.following 2 = s.following 2 := by
  obtain ⟨r, p, b, c, ht⟩ := h.only
  rw [ht]
  rfl
theorem PoppedAllowed.done_raised (hc : ∃ i < ks.length, s.canAccess 4 (s.above i) = false) :
    t.done 2 = .next ((t.after 2).raise .cpuAddressError (s.following 2)) :=
  State.done_raised (h.held.mpr (.inr hc)) h.following
theorem PoppedAllowed.quiet (hh : s.held = false) (hc : ∀ i < ks.length, s.canAccess 4 (s.above i) = true) :
    t.held = false := by
  rw [Bool.eq_false_iff, Ne, h.held, hh]
  rintro (hheld | ⟨i, hi, hbad⟩)
  · cases hheld
  · cases hbad.symm.trans (hc i hi)
theorem PoppedAllowed.after : LoadedAbove s (t.after 2) ks := by
  have hpc : t.following 2 = (s.after 2).pc := h.following.trans (s.after_pc 2).symm
  obtain ⟨⟨r, p, b, c, ht⟩, hsp, hread, hothers, -⟩ := h
  rw [State.after_eq_goto]
  refine ⟨hsp, hread, hothers, fun x hx => ?_, ?_, ?_, ?_, ?_, ?_, hpc, rfl, ?_⟩ <;> rw [ht]
  · cases x with
    | pr => exact absurd (List.mem_singleton_self _) hx
    | gbr | vbr | tbr | mach | macl | fpul | fpscr => rfl
  · exact fun _ => rfl
  · exact fun _ _ => rfl
  · rfl
  · exact ⟨rfl, rfl⟩
  · exact ⟨rfl, rfl, rfl, rfl⟩
  · rfl

end Pop

theorem State.listReg_general (s : State) {j : Nat} (hj : j < 15) : s.listReg j = s.reg (BitVec.ofNat 4 j) :=
  if_neg (by omega)

end Sys2Proof.Machine

/-! ### What MOVML.L and MOVMU.L push and pop -/

namespace Sys2Proof.Machine

open Sys2Proof

theorem mem_range_reverse_lt {k : Nat} (m : GReg) (hk : k ∈ (List.range (m.toNat + 1)).reverse) : k < 16 := by
  have hm := m.isLt
  have := List.mem_range.mp (List.mem_reverse.mp hk)
  omega
theorem mem_range'_lt {k : Nat} (m : GReg) (hk : k ∈ List.range' m.toNat (16 - m.toNat)) : k < 16 := by
  have hm := m.isLt
  have := List.mem_range'_1.mp hk
  omega

/-- The pushes of MOVML.L (R252): `R[m]`, …, `R[0]`, PR in place of R15. -/
theorem State.movmlPush_pushed {s : State} (m : GReg) (hm : Memory.wf s.mem) (hp : s.plain (s.reg 15 - 64) 64) :
    PushedAllowed s (s.pushList (List.range (m.toNat + 1)).reverse)
      ((List.range (m.toNat + 1)).reverse.map s.listReg) :=
  State.pushRegs_allowed (fun _ => mem_range_reverse_lt m)
    (by have := m.isLt; simp only [List.length_reverse, List.length_range]; omega) hm hp
/-- The pushes of MOVMU.L (R254): PR, `R[14]`, …, `R[m]`. -/
theorem State.movmuPush_pushed {s : State} (m : GReg) (hm : Memory.wf s.mem) (hp : s.plain (s.reg 15 - 64) 64) :
    PushedAllowed s (s.pushList (List.range' m.toNat (16 - m.toNat)).reverse)
      ((List.range' m.toNat (16 - m.toNat)).reverse.map s.listReg) :=
  State.pushRegs_allowed (fun _ hk => mem_range'_lt m (List.mem_reverse.mp hk))
    (by simp only [List.length_reverse, List.length_range']; omega) hm hp
/-- The pops of MOVML.L (R253): `R[0]`, …, `R[n]`. -/
theorem State.movmlPop_popped (s : State) (n : GReg) :
    PoppedAllowed s (s.popList (List.range (n.toNat + 1))) (List.range (n.toNat + 1)) :=
  State.popList_allowed _ (fun _ hk => mem_range_reverse_lt n (List.mem_reverse.mpr hk)) List.nodup_range
/-- The pops of MOVMU.L (R255): `R[n]`, …, `R[14]`, PR. -/
theorem State.movmuPop_popped (s : State) (n : GReg) :
    PoppedAllowed s (s.popList (List.range' n.toNat (16 - n.toNat))) (List.range' n.toNat (16 - n.toNat)) :=
  State.popList_allowed _ (fun _ => mem_range'_lt n) List.nodup_range'

section Lists

variable {s t : State} {m : GReg} {j : Nat}

theorem StoredBelow.sp_range (h : StoredBelow s t ((List.range (m.toNat + 1)).reverse.map s.listReg)) :
    t.reg 15 = s.below (m.toNat + 1) := by simpa using h.sp
theorem StoredBelow.sp_range' (h : StoredBelow s t ((List.range' m.toNat (16 - m.toNat)).reverse.map s.listReg)) :
    t.reg 15 = s.below (16 - m.toNat) := by simpa using h.sp
theorem StoredBelow.read_range (h : StoredBelow s t ((List.range (m.toNat + 1)).reverse.map s.listReg))
    (hj : j ≤ m.toNat) (hc : s.canAccess 4 (s.below (m.toNat - j + 1)) = true) :
    t.peek32 (s.below (m.toNat - j + 1)) = s.listReg j :=
  h.read _ _ (by rw [List.getElem?_map, getElem?_range_reverse hj]; rfl) hc
theorem StoredBelow.read_range' (h : StoredBelow s t ((List.range' m.toNat (16 - m.toNat)).reverse.map s.listReg))
    (hj : m.toNat ≤ j) (hj16 : j < 16) (hc : s.canAccess 4 (s.below (16 - j)) = true) :
    t.peek32 (s.below (16 - j)) = s.listReg j := by
  have hindex : 16 - j = 15 - j + 1 := by omega
  rw [hindex] at hc ⊢
  exact h.read _ _ (by rw [List.getElem?_map, getElem?_range'_reverse hj hj16]; rfl) hc
theorem StoredBelow.keep_range (h : StoredBelow s t ((List.range (m.toNat + 1)).reverse.map s.listReg)) {a : Word}
    (ha : ∀ j i : Nat, j ≤ m.toNat → i < 4 → s.canAccess 4 (s.below (m.toNat - j + 1)) = true →
      a ≠ s.below (m.toNat - j + 1) + BitVec.ofNat 32 i) : t.peek a = s.peek a := by
  refine h.keep a fun k hk hc => (outside_range_iff a _ 4).mp fun i hi => ?_
  rw [List.length_map, List.length_reverse, List.length_range] at hk
  have hindex : m.toNat - (m.toNat - k) + 1 = k + 1 := by omega
  have hout := ha (m.toNat - k) i (by omega) hi
  rw [hindex] at hout
  exact hout hc
theorem StoredBelow.keep_range' (h : StoredBelow s t ((List.range' m.toNat (16 - m.toNat)).reverse.map s.listReg))
    {a : Word} (ha : ∀ j i : Nat, m.toNat ≤ j ∧ j < 16 → i < 4 → s.canAccess 4 (s.below (16 - j)) = true →
      a ≠ s.below (16 - j) + BitVec.ofNat 32 i) : t.peek a = s.peek a := by
  refine h.keep a fun k hk hc => (outside_range_iff a _ 4).mp fun i hi => ?_
  rw [List.length_map, List.length_reverse, List.length_range'] at hk
  have hindex : 16 - (15 - k) = k + 1 := by omega
  have hout := ha (15 - k) i (by omega) hi
  rw [hindex] at hout
  exact hout hc
theorem LoadedAbove.sp_range (h : LoadedAbove s t (List.range (m.toNat + 1))) :
    t.reg 15 = s.above (m.toNat + 1) := by simpa using h.sp
theorem LoadedAbove.sp_range' (h : LoadedAbove s t (List.range' m.toNat (16 - m.toNat))) :
    t.reg 15 = s.above (16 - m.toNat) := by simpa using h.sp
theorem LoadedAbove.read_range (h : LoadedAbove s t (List.range (m.toNat + 1))) (hj : j ≤ m.toNat)
    (hc : s.canAccess 4 (s.above j) = true) : t.listReg j = s.peek32 (s.above j) :=
  h.read j j (List.getElem?_range (by omega)) hc
theorem LoadedAbove.general_range (h : LoadedAbove s t (List.range (m.toNat + 1))) (hj : m.toNat < j) (hj15 : j < 15) :
    t.reg (BitVec.ofNat 4 j) = s.reg (BitVec.ofNat 4 j) := by
  rw [← t.listReg_general hj15, ← s.listReg_general hj15]
  exact h.others j (by omega) (by rw [List.mem_range]; omega)
theorem LoadedAbove.pr_range (h : LoadedAbove s t (List.range (m.toNat + 1))) (hm : m = 15)
    (hc : s.canAccess 4 (s.above 15) = true) : t.pr = s.peek32 (s.above 15) :=
  h.read_range (j := 15) (by rw [hm]; exact Nat.le_refl 15) hc
theorem LoadedAbove.pr_range_same (h : LoadedAbove s t (List.range (m.toNat + 1))) (hm : m ≠ 15) : t.pr = s.pr :=
  h.others 15 (by omega) (by rw [List.mem_range]; bv_omega)
theorem LoadedAbove.read_range' (h : LoadedAbove s t (List.range' m.toNat (16 - m.toNat))) (hj : m.toNat ≤ j)
    (hj16 : j < 16) (hc : s.canAccess 4 (s.above (j - m.toNat)) = true) :
    t.listReg j = s.peek32 (s.above (j - m.toNat)) :=
  h.read _ j (getElem?_range'_sub hj hj16) hc
theorem LoadedAbove.general_range' (h : LoadedAbove s t (List.range' m.toNat (16 - m.toNat))) (hj : j < m.toNat)
    (hj15 : j < 15) : t.reg (BitVec.ofNat 4 j) = s.reg (BitVec.ofNat 4 j) := by
  rw [← t.listReg_general hj15, ← s.listReg_general hj15]
  exact h.others j (by omega) (by rw [List.mem_range'_1]; omega)

end Lists

/-- Settles O7: the pushed and popped lists at their places, each access allowed on an aligned stack. -/
theorem multiple_register_moves : Obligations.multiple_register_moves := by
  unfold Obligations.multiple_register_moves
  refine ⟨fun m s => ⟨rfl, fun hh hsp hd hm hp => ?movmlPush⟩, fun n s => ⟨rfl, fun hh hsp hd => ?movmlPop⟩,
    fun m s => ⟨rfl, fun hh hsp hd hm hp => ?movmuPush⟩, fun n s => ⟨rfl, fun hh hsp hd => ?movmuPop⟩⟩
  case movmlPush =>
    have hpush := s.movmlPush_pushed m hm hp
    have hquiet := hpush.quiet hh fun k _ => State.below_allowed hsp hd (k + 1)
    have h := hpush.after
    have hout := h.outside
    rw [List.length_map, List.length_reverse, List.length_range] at hout
    exact ⟨_, State.done_after hquiet 2, h.sp_range, fun j hj => h.read_range hj (State.below_allowed hsp hd _), hout,
      h.regs, h.specials, h.fregs, h.status, h.banks, h.platform, h.pc, h.slot, (State.after_held _ 2).trans hquiet,
      h.power⟩
  case movmlPop =>
    have hpop := s.movmlPop_popped n
    have hquiet := hpop.quiet hh fun k _ => State.above_allowed hsp hd k
    have h := hpop.after
    have hpr : ((s.popList (List.range (n.toNat + 1))).after 2).pr =
        if n = 15 then s.peek32 (s.above 15) else s.pr := by
      split
      · next hn => exact h.pr_range hn (State.above_allowed hsp hd _)
      · next hn => exact h.pr_range_same hn
    exact ⟨_, State.done_after hquiet 2, h.sp_range,
      fun j hj hj15 => (State.listReg_general _ hj15).symm.trans (h.read_range hj (State.above_allowed hsp hd _)),
      hpr, fun j hj hj15 => h.general_range hj hj15,
      h.specials, h.memory, h.fregs, h.status, h.banks, h.platform, h.pc, h.slot, (State.after_held _ 2).trans hquiet,
      h.power⟩
  case movmuPush =>
    have hpush := s.movmuPush_pushed m hm hp
    have hquiet := hpush.quiet hh fun k _ => State.below_allowed hsp hd (k + 1)
    have h := hpush.after
    have hout := h.outside
    rw [List.length_map, List.length_reverse, List.length_range'] at hout
    have hread {j : Nat} (hj : m.toNat ≤ j) (hj16 : j < 16) := h.read_range' hj hj16 (State.below_allowed hsp hd _)
    exact ⟨_, State.done_after hquiet 2, h.sp_range', hread (j := 15) (by have := m.isLt; omega) (by omega),
      fun j hj hj15 => (hread hj (by omega)).trans (s.listReg_general hj15), hout,
      h.regs, h.specials, h.fregs, h.status, h.banks, h.platform, h.pc, h.slot, (State.after_held _ 2).trans hquiet,
      h.power⟩
  case movmuPop =>
    have hpop := s.movmuPop_popped n
    have hquiet := hpop.quiet hh fun k _ => State.above_allowed hsp hd k
    have h := hpop.after
    have hread {j : Nat} (hj : n.toNat ≤ j) (hj16 : j < 16) := h.read_range' hj hj16 (State.above_allowed hsp hd _)
    exact ⟨_, State.done_after hquiet 2, h.sp_range',
      fun j hj hj15 => (State.listReg_general _ hj15).symm.trans (hread hj (by omega)),
      hread (j := 15) (by have := n.isLt; omega) (by omega),
      fun j hj hj15 => h.general_range' hj hj15,
      h.specials, h.memory, h.fregs, h.status, h.banks, h.platform, h.pc, h.slot, (State.after_held _ 2).trans hquiet,
      h.power⟩

end Sys2Proof.Machine

/-! ### RTE and RESBANK from a stack that may not all be read; bank addresses -/

namespace Sys2Proof.Machine

open Sys2Proof

/-- RTE: both reads are made, and the error is held until the slot instruction is done (R491). -/
theorem State.execRte_fault {s : State} (hs : s.slot = .none)
    (hc : s.canAccess 4 (s.reg 15) = false ∨ s.canAccess 4 (s.reg 15 + 4) = false) :
    ∃ x y c, (s.canAccess 4 (s.reg 15) = true → x = s.peek32 (s.reg 15)) ∧
      (s.canAccess 4 (s.reg 15 + 4) = true → y = s.peek32 (s.reg 15 + 4)) ∧
      execRte s = .next { s.setReg 15 (s.reg 15 + 8) with
        sr := y &&& 0x000063F3, pc := s.pc + 2, slot := .taken x, held := true, freeCount := c } := by
  obtain ⟨x, h, c, hfirst, hx, hheld⟩ := s.load32_allowed s.sp
  have hsp : (State.setReg { s with held := h, freeCount := c } 15 (s.sp + 4)).sp = s.sp + 4 :=
    State.reg_setReg_same _ _ _
  obtain ⟨y, h', c', hsecond, hy, hheld'⟩ :=
    (State.setReg { s with held := h, freeCount := c } 15 (s.sp + 4)).load32_allowed (s.sp + 4)
  have hraised : h' = true := hheld'.mpr (hc.imp_left fun hc => hheld.mpr (.inr hc))
  refine ⟨x, y, c', hx, hy, ?_⟩
  have hup : s.sp + 4 + 4 = s.reg 15 + 8 := BitVec.add_assoc _ _ _
  simp only [execRte, State.outsideSlot_none hs, State.returnFromException, State.pop, hfirst, hsp, hsecond, hraised,
    hup]
  simp [State.setReg, State.setSr, State.delayTo, srMask]

/-- `u` is `t` with a control register popped from the `k`-th longword above R15 of the state `s` that a sequence of
pops began with. -/
structure PoppedSpecial (s t u : State) (k : Nat) (x : Special) : Prop where
  only : ∃ r v h c, u = State.setSpecial { t with regs := r, held := h, freeCount := c } x v
  sp : u.sp = s.above (k + 1)
  general : ∀ j < 15, u.reg (BitVec.ofNat 4 j) = t.reg (BitVec.ofNat 4 j)
  read : s.canAccess 4 (s.above k) = true → u.special x = s.peek32 (s.above k)
  held : u.held = true ↔ t.held = true ∨ s.canAccess 4 (s.above k) = false

theorem State.special_setSpecial_setReg (s : State) (x : Special) (n : GReg) (v w : Word) :
    ((s.setSpecial x v).setReg n w).special x = v := by
  cases x <;> rfl

theorem State.popInto_special {s t : State} {k : Nat} (hsp : t.sp = s.above k) (hcfg : t.cfg = s.cfg)
    (hpeek : t.peek32 = s.peek32) (x : Special) :
    PoppedSpecial s t (t.popInto fun u v => u.setSpecial x v) k x := by
  obtain ⟨v, h, c, hpop, hv, hheld⟩ := t.popInto_allowed fun u v => u.setSpecial x v
  rw [State.above_succ hsp] at hpop
  rw [hsp, State.canAccess_congr hcfg, hpeek] at hv
  rw [hsp, State.canAccess_congr hcfg] at hheld
  rw [hpop]
  refine ⟨?_, State.reg_setReg_same _ _ _, fun j hj => ?_, fun hc => ?_, ?_⟩
  · refine ⟨(t.setReg 15 (s.above (k + 1))).regs, v, h, c, ?_⟩
    cases x <;> rfl
  · rw [State.reg_setReg_other _ _ _ _ (ofNat_ne_fifteen hj)]
    cases x <;> rfl
  · rw [State.special_setSpecial_setReg]
    exact hv hc
  · rw [← hheld]
    cases x <;> rfl

/-- What RESBANK leaves that has restored from the stack, whichever of the accesses are allowed. -/
structure BankPopped (s t : State) : Prop where
  only : ∃ r p x y z h c,
    t = { s with regs := r, pr := p, gbr := x, mach := y, macl := z, held := h, freeCount := c }
  sp : t.reg 15 = s.above 19
  general : ∀ k < 15, s.canAccess 4 (s.above k) = true → t.reg (BitVec.ofNat 4 k) = s.peek32 (s.above k)
  pr : s.canAccess 4 (s.above 15) = true → t.pr = s.peek32 (s.above 15)
  gbr : s.canAccess 4 (s.above 16) = true → t.gbr = s.peek32 (s.above 16)
  mach : s.canAccess 4 (s.above 17) = true → t.mach = s.peek32 (s.above 17)
  macl : s.canAccess 4 (s.above 18) = true → t.macl = s.peek32 (s.above 18)
  held : t.held = true ↔ s.held = true ∨ ∃ k < 19, s.canAccess 4 (s.above k) = false

theorem State.popList_concat (s : State) (ks : List Nat) (k : Nat) :
    s.popList (ks ++ [k]) = (s.popList ks).popInto fun t v => t.setListReg k v := by
  rw [State.popList, State.popList, List.foldl_append]
  rfl

/-- The restore is the pops of MOVML.L, then GBR, MACH and MACL (R485). -/
theorem State.popBank_eq (s : State) : s.popBank =
    (((s.popList (List.range 16)).popInto State.setGbr).popInto State.setMach).popInto State.setMacl := by
  have hpr : s.popList (List.range 16) = (s.popList (List.range 15)).popInto State.setPr := by
    rw [List.range_succ, State.popList_concat]
    rfl
  rw [hpr, State.popBank]

/-- Each pop of the restore, one longword above the last (R485). -/
theorem State.popBank_allowed (s : State) : BankPopped s s.popBank := by
  have hpopped := s.popList_allowed (List.range 16) (fun k hk => List.mem_range.mp hk) List.nodup_range
  rw [s.popBank_eq]
  generalize s.popList (List.range 16) = t at hpopped
  obtain ⟨⟨r, p, h, c, ht⟩, hsp, hread, -, hheld⟩ := hpopped
  rw [List.length_range] at hsp hheld
  have hread (k : Nat) (hk : k < 16) (hc : s.canAccess 4 (s.above k) = true) : t.listReg k = s.peek32 (s.above k) :=
    hread k k (List.getElem?_range hk) hc
  have hgbr : PoppedSpecial s t (t.popInto State.setGbr) 16 .gbr :=
    State.popInto_special hsp (by rw [ht]) (by rw [ht]; rfl) .gbr
  generalize t.popInto State.setGbr = t1 at hgbr
  obtain ⟨⟨r1, x, h1, c1, ht1⟩, hsp1, hgeneral1, hx, hheld1⟩ := hgbr
  have hmach : PoppedSpecial s t1 (t1.popInto State.setMach) 17 .mach :=
    State.popInto_special hsp1 (by rw [ht1, ht]; rfl) (by rw [ht1, ht]; rfl) .mach
  generalize t1.popInto State.setMach = t2 at hmach
  obtain ⟨⟨r2, y, h2, c2, ht2⟩, hsp2, hgeneral2, hy, hheld2⟩ := hmach
  have hmacl : PoppedSpecial s t2 (t2.popInto State.setMacl) 18 .macl :=
    State.popInto_special hsp2 (by rw [ht2, ht1, ht]; rfl) (by rw [ht2, ht1, ht]; rfl) .macl
  generalize t2.popInto State.setMacl = t3 at hmacl
  obtain ⟨⟨r3, z, h3, c3, ht3⟩, hsp3, hgeneral3, hz, hheld3⟩ := hmacl
  have hheld3 : t3.held = true ↔ s.held = true ∨ ∃ k < 19, s.canAccess 4 (s.above k) = false := by
    rw [hheld3, hheld2, hheld1, hheld, Nat.exists_lt_succ_right (n := 18), Nat.exists_lt_succ_right (n := 17),
      Nat.exists_lt_succ_right (n := 16)]
    simp only [or_assoc]
  have hgeneral (k : Nat) (hk : k < 15) : t3.reg (BitVec.ofNat 4 k) = t.listReg k := by
    rw [hgeneral3 k hk, hgeneral2 k hk, hgeneral1 k hk, t.listReg_general hk]
  have hpr : t3.pr = t.listReg 15 := by rw [ht3, ht2, ht1]; rfl
  have hgbr : t3.gbr = t1.gbr := by rw [ht3, ht2]; rfl
  have hmach : t3.mach = t2.mach := by rw [ht3]; rfl
  exact ⟨⟨r3, p, x, y, z, h3, c3, by rw [ht3, ht2, ht1, ht]; rfl⟩, hsp3,
    fun k hk hc => (hgeneral k hk).trans (hread k (by omega) hc), fun hc => hpr.trans (hread 15 (by decide) hc),
    fun hc => hgbr.trans (hx hc), fun hc => hmach.trans (hy hc), hz, hheld3⟩

section Restore

variable {s t : State} (h : BankPopped s t)
include h

theorem BankPopped.done_raised (hs : s.slot = .none) (hc : ∃ k < 19, s.canAccess 4 (s.above k) = false) :
    t.done 2 = .next ((t.goto (s.pc + 2)).raise .cpuAddressError (s.pc + 2)) := by
  have hfollowing : t.following 2 = s.following 2 := by
    obtain ⟨r, p, x, y, z, b, c, ht⟩ := h.only
    rw [ht]
    rfl
  rw [State.done_raised (h.held.mpr (.inr hc)) hfollowing, State.after_eq_goto, hfollowing, State.following_none hs]
theorem BankPopped.unchanged (a : Word) : SameSpecials s (t.goto a) [.pr, .gbr, .mach, .macl] ∧
    SameMemory s (t.goto a) ∧ SameFregs s (t.goto a) [] ∧ (t.goto a).sr = s.sr ∧ SameBanks s (t.goto a) ∧
    SamePlatform s (t.goto a) ∧ (t.goto a).power = s.power := by
  obtain ⟨r, p, x, y, z, b, c, ht⟩ := h.only
  rw [ht]
  refine ⟨fun x hx => ?_, fun _ => rfl, fun _ _ => rfl, rfl, ⟨rfl, rfl⟩, ⟨rfl, rfl, rfl, rfl⟩, rfl⟩
  cases x with
  | gbr | mach | macl | pr => exact absurd hx (by decide)
  | vbr | tbr | fpul | fpscr => rfl

end Restore

/-- A bank address that is none of those of the entries names no entry (R55). -/
theorem State.bankEntry?_none {s : State} {a : Word}
    (h : ∀ k e : Nat, k < s.banks.length → e < 20 → a.toNat ≠ 128 * k + 4 * e) : s.bankEntry? a = none := by
  unfold State.bankEntry?
  simp only
  split
  · next hfields =>
    obtain ⟨hhigh, hlow, hbank⟩ := hfields
    split
    · next hentry =>
      refine absurd ?_ (h _ _ hbank hentry)
      have hhigh' := congrArg BitVec.toNat hhigh
      have hlow' := congrArg BitVec.toNat hlow
      simp only [BitVec.extractLsb'_toNat, Nat.shiftRight_eq_div_pow, BitVec.ofNat_eq_ofNat,
        BitVec.toNat_ofNat, Nat.pow_zero, Nat.div_one] at hhigh' hlow' ⊢
      omega
    · rfl
  · rfl

end Sys2Proof.Machine

/-! ### Accesses that are not allowed -/

namespace Sys2Proof.Machine

open Sys2Proof

/-- The entry for an address error serves what is held (R725). -/
theorem State.raise_addressError (s : State) (saved : Word) :
    s.addressError.raise .cpuAddressError saved = s.raise .cpuAddressError saved := by
  have hserved : ({ s.addressError with held := false } : State) = { s with held := false } := rfl
  simp only [State.raise, State.enter, hserved, if_true]

/-- A recorded error ends the instruction with the entry, which knows nothing else of it (R725). -/
theorem State.done_fault {t u : State} (hu : u = t.addressError) (len : Word) :
    u.done len = .next ((t.after len).raise .cpuAddressError (t.following len)) := by
  have hafter : t.addressError.after len = (t.after len).addressError := by
    rw [State.after_eq_goto, State.after_eq_goto]
    rfl
  rw [hu, State.done_raised (s := t) (t := t.addressError) rfl rfl, hafter, State.raise_addressError]

/-- The same with an address register moved after the access (R725 point 3). -/
theorem State.done_fault_moved {t u : State} (hu : u = t.addressError) (n : GReg) (v : Word) :
    (u.setReg n v).done 2 = .next (((t.setReg n v).after 2).raise .cpuAddressError (t.following 2)) :=
  State.done_fault (t := t.setReg n v) (by rw [hu]; rfl) 2

/-- A four-byte instruction outside a slot (R142). -/
theorem State.outsideSlot_fault {s t u : State} (hs : s.slot = .none) (hu : u = t.addressError)
    (ht : t.following 4 = s.following 4) :
    s.outsideSlot 4 (u.done 4) = .next ((t.after 4).raise .cpuAddressError (s.pc + 4)) := by
  rw [State.outsideSlot_none hs, State.done_fault hu, ht, State.following_none hs]

/-- With the FPU running an instruction that needs it answers what it answers, for some open value. -/
theorem State.withFpu_exists {α : Type} {s : State} (hf : s.fpuReady = true) {len : Word} {r : Res} {f : α → Res}
    (h : ∃ v, r = f v) : ∃ v, s.withFpu len r = f v := by
  rwa [State.withFpu_ready hf]

section Access

variable {s : State} {a : Word}

theorem State.load8s_bad (h : s.canAccess 1 a = false) : s.load8s a = (s.open32, (s.drawn 1).addressError) := by
  simp [State.load8s, State.read8_bad h, State.deliver]
theorem State.load8u_bad (h : s.canAccess 1 a = false) : s.load8u a = (s.open32, (s.drawn 1).addressError) := by
  simp [State.load8u, State.read8_bad h, State.deliver]
theorem State.store8_bad (h : s.canAccess 1 a = false) (v : Byte) : s.store8 a v = s.addressError := by
  simp [State.store8, h]
theorem State.testByte_bad (h : s.canAccess 1 a = false) (f : Byte → Bool) : s.testByte a f = s.addressError := by
  simp only [State.testByte, State.read8_bad h]
theorem State.modifyByte_bad (h : s.canAccess 1 a = false) (f : Byte → Byte) :
    s.modifyByte a f = s.addressError := by
  simp only [State.modifyByte, State.read8_bad h]

end Access

/-! The destinations of a load that faults take the open values it draws (R725 point 2). -/

section Loads

variable {s : State} {r : Word × State} (hr : r = (s.open32, (s.drawn 1).addressError))
include hr

theorem loadInto_fault (len : Word) (n : GReg) : ∃ v, loadInto len n r =
    .next ((({ s.setReg n v with freeCount := s.freeCount + 1 } : State).after len).raise .cpuAddressError
      (s.following len)) :=
  ⟨s.open32, State.done_fault (t := { s.setReg n s.open32 with freeCount := s.freeCount + 1 }) (by rw [hr]; rfl) len⟩

theorem loadPostInc_fault (m n : GReg) (size : Word) : ∃ v, loadPostInc m n size r =
    .next ((({ (if n = m then s.setReg n v else (s.setReg n v).setReg m (s.reg m + size)) with
      freeCount := s.freeCount + 1 } : State).after 2).raise .cpuAddressError (s.following 2)) := by
  refine ⟨s.open32, ?_⟩
  rw [hr, loadPostInc]
  split
  · exact State.done_fault (t := { s.setReg n s.open32 with freeCount := s.freeCount + 1 }) rfl 2
  · next hnm =>
    have hreg : ((s.drawn 1).addressError.setReg n s.open32).reg m = s.reg m :=
      State.reg_setReg_other _ n m _ (Ne.symm hnm)
    simp only [hreg]
    exact State.done_fault (t := { (s.setReg n s.open32).setReg m (s.reg m + size) with
      freeCount := s.freeCount + 1 }) rfl 2

theorem frInto_fault (n : FReg) : ∃ v, frInto n r =
    State.addressError { s.setFreg n v with freeCount := s.freeCount + 1 } := ⟨s.open32, by rw [hr]; rfl⟩

end Loads

theorem drInto_fault {s : State} {r : Quad × State} (hr : r = (s.open64, (s.drawn 2).addressError)) (n : DReg) :
    ∃ v, drInto n r = State.addressError { s.setDreg n v with freeCount := s.freeCount + 2 } :=
  ⟨s.open64, by rw [hr]; rfl⟩

/-- A control register loaded where that is not allowed; `f` is the register's write (R491). -/
theorem loadControl_fault {s : State} {m : GReg} (h : s.canAccess 4 (s.reg m) = false) {put : State → Word → State}
    {f : Word → State}
    (hput : ∀ v, put (s.drawn 1).addressError v = State.addressError { f v with freeCount := s.freeCount + 1 })
    (hf : ∀ v, (f v).following 2 = s.following 2) : ∃ v, (s.loadControl m put).done 2 =
      .next ((({ (f v).setReg m (s.reg m + 4) with freeCount := s.freeCount + 1 } : State).after 2).raise
        .cpuAddressError (s.following 2)) := by
  refine ⟨s.open32, ?_⟩
  rw [State.loadControl, State.load32_bad h, ← hf s.open32]
  exact State.done_fault_moved (hput s.open32) m (s.reg m + 4)

theorem storeControl_fault {s : State} {n : GReg} (h : s.canAccess 4 (s.reg n - 4) = false) (v : Word) :
    (s.storeControl n v).done 2 =
      .next (((s.setReg n (s.reg n - 4)).after 2).raise .cpuAddressError (s.following 2)) :=
  State.done_fault_moved (State.store32_bad h v) n _

/-! MOVML.L and MOVMU.L with an access in their lists that is not allowed (R256). -/

section Lists

variable {s : State} {m : GReg} {j : Nat}

theorem State.movmlPush_fault (hm : Memory.wf s.mem) (hp : s.plain (s.reg 15 - 64) 64) (hj : j ≤ m.toNat)
    (hc : s.canAccess 4 (s.below (m.toNat - j + 1)) = false) : exec (.movmlPush m) s =
      .next (((s.pushList (List.range (m.toNat + 1)).reverse).after 2).raise .cpuAddressError (s.following 2)) := by
  refine (s.movmlPush_pushed m hm hp).done_raised ⟨m.toNat - j, ?_, hc⟩
  rw [List.length_map, List.length_reverse, List.length_range]
  omega
theorem State.movmuPush_fault (hm : Memory.wf s.mem) (hp : s.plain (s.reg 15 - 64) 64) (hj : m.toNat ≤ j)
    (hj16 : j < 16) (hc : s.canAccess 4 (s.below (16 - j)) = false) : exec (.movmuPush m) s =
      .next (((s.pushList (List.range' m.toNat (16 - m.toNat)).reverse).after 2).raise .cpuAddressError
        (s.following 2)) := by
  have hindex : 16 - j = 15 - j + 1 := by omega
  rw [hindex] at hc
  refine (s.movmuPush_pushed m hm hp).done_raised ⟨15 - j, ?_, hc⟩
  rw [List.length_map, List.length_reverse, List.length_range']
  omega
theorem State.movmlPop_fault (hj : j ≤ m.toNat) (hc : s.canAccess 4 (s.above j) = false) : exec (.movmlPop m) s =
    .next (((s.popList (List.range (m.toNat + 1))).after 2).raise .cpuAddressError (s.following 2)) :=
  (s.movmlPop_popped m).done_raised ⟨j, by rw [List.length_range]; omega, hc⟩
theorem State.movmuPop_fault (hj : m.toNat ≤ j) (hj16 : j < 16)
    (hc : s.canAccess 4 (s.above (j - m.toNat)) = false) : exec (.movmuPop m) s =
      .next (((s.popList (List.range' m.toNat (16 - m.toNat))).after 2).raise .cpuAddressError (s.following 2)) :=
  (s.movmuPop_popped m).done_raised ⟨j - m.toNat, by rw [List.length_range']; omega, hc⟩

end Lists

/-! Instructions that compute with the datum: what they compute is not produced (R343, R377, R436). -/

theorem execTasB_fault {s : State} {n : GReg} (h : s.canAccess 1 (s.reg n) = false) :
    execTasB n s = s.addressError.done 2 := by
  simp only [execTasB, State.read8_bad h]

/-- One operand that may not be read is enough: nothing is accumulated, and the address registers move (R343). -/
theorem execMacL_fault {s : State} {m n : GReg}
    (h : s.canAccess 4 (s.reg n) = false ∨ s.canAccess 4 (s.macAddr m n 4) = false) :
    execMacL m n s = (s.macAdvance m n 4).addressError.done 2 := by
  rw [execMacL]
  obtain h | h := h
  · rw [State.read32_bad h]
  · rw [State.read32_bad h]
    cases s.read32 (s.reg n) <;> rfl
theorem execMacW_fault {s : State} {m n : GReg}
    (h : s.canAccess 2 (s.reg n) = false ∨ s.canAccess 2 (s.macAddr m n 2) = false) :
    execMacW m n s = (s.macAdvance m n 2).addressError.done 2 := by
  rw [execMacW]
  obtain h | h := h
  · rw [State.read16_bad h]
  · rw [State.read16_bad h]
    cases s.read16 (s.reg n) <;> rfl

/-- PR is written before the table is read (R436). -/
theorem execJsrNTbr_fault {s : State} {d : BitVec 8} (hs : s.slot = .none)
    (h : s.canAccess 4 (s.eaTbr d) = false) :
    execJsrNTbr d s = (s.link (s.pc + 2)).addressError.done 2 := by
  rw [execJsrNTbr, State.branch, State.outsideSlot_none hs, State.read32_bad h]

/-- A product with banks answers a bank address that names no entry with the fault (U21). -/
theorem execLdbank_fault {s : State} {m : GReg} (hp : s.cfg.hasBanks = true) (h : s.bankEntry? (s.reg m) = none) :
    execLdbank m s = .fault .bankAddressNotGuaranteed := by
  rw [execLdbank, State.withBanks_present hp, h]
theorem execStbank_fault {s : State} {n : GReg} (hp : s.cfg.hasBanks = true) (h : s.bankEntry? (s.reg n) = none) :
    execStbank n s = .fault .bankAddressNotGuaranteed := by
  rw [execStbank, State.withBanks_present hp, h]

/-- One vector that may not be read is enough for the refusal (U25). -/
theorem State.resetMachine_refused {s : State} {k : ResetKind}
    (h : s.canAccess 4 k.vectorAddress = false ∨ s.canAccess 4 (k.vectorAddress + 4) = false) :
    s.resetMachine k = .refused .resetVectorForbidden := by
  rw [State.resetMachine]
  obtain h | h := h
  · rw [State.read32_bad h]
  · rw [State.read32_bad h]
    cases s.read32 k.vectorAddress <;> rfl

/-- Settles O54: each faulting access is recorded beside what the instruction does without its datum, and the entry
follows at the instruction's end. -/
theorem faulting_accesses_and_stops : Obligations.faulting_accesses_and_stops := by
  unfold Obligations.faulting_accesses_and_stops
  simp only [List.forall_mem_cons]
  refine ⟨fun m n d4 d8 d12 s => ?loads, fun m s hc => ?loadControl, fun m n i d4 d8 d12 s => ?stores,
    fun i s hc => ?modify, fun m n s => ?mac, fun m n d s hf => ?single, fun m n d s hf => ?pair,
    fun n m d12 s hf => ?fpuStores, fun d s hs hc => ?jsrNTbr, fun s hs hc => ?rte, fun s hs hp hbo hc => ?resbank,
    fun m s hm hp hc => ?movmlPush, fun m s hm hp hc => ?movmuPush, fun n s hc => ?movmlPop, fun n s hc => ?movmuPop,
    fun n s hp hn => ?bankAddress, fun s k hk hc => ?reset⟩
  case loads =>
    have wide {r : Word × State} (hs : s.slot = .none) (hr : r = (s.open32, (s.drawn 1).addressError)) (k : GReg) :
        ∃ v, s.outsideSlot 4 (loadInto 4 k r) = .next ((({ s.setReg k v with
          freeCount := s.freeCount + 1 } : State).after 4).raise .cpuAddressError (s.pc + 4)) := by
      rw [State.outsideSlot_none hs, ← State.following_none hs]
      exact loadInto_fault hr 4 k
    exact ⟨⟨fun hc => loadInto_fault (State.load16s_bad hc) 2 n, fun hc => loadInto_fault (State.load32_bad hc) 2 n,
      fun hc => loadInto_fault (State.load8s_bad hc) 2 n, fun hc => loadInto_fault (State.load8s_bad hc) 2 n,
      fun hc => loadInto_fault (State.load8s_bad hc) 2 0, fun hc => loadInto_fault (State.load8s_bad hc) 2 0,
      fun hc => loadInto_fault (State.load16s_bad hc) 2 n, fun hc => loadInto_fault (State.load16s_bad hc) 2 n,
      fun hc => loadInto_fault (State.load16s_bad hc) 2 0, fun hc => loadInto_fault (State.load16s_bad hc) 2 0,
      fun hc => loadInto_fault (State.load32_bad hc) 2 n, fun hc => loadInto_fault (State.load32_bad hc) 2 n,
      fun hc => loadInto_fault (State.load32_bad hc) 2 0, fun hc => loadInto_fault (State.load32_bad hc) 2 n,
      List.forall_mem_nil _⟩,
      fun hs => ⟨fun hc => wide hs (State.load8s_bad hc) n, fun hc => wide hs (State.load16s_bad hc) n,
      fun hc => wide hs (State.load32_bad hc) n, fun hc => wide hs (State.load8u_bad hc) n,
      fun hc => wide hs (State.load16u_bad hc) n, List.forall_mem_nil _⟩,
      ⟨fun hc => loadPostInc_fault (State.load8s_bad hc) m n 1,
      fun hc => loadPostInc_fault (State.load16s_bad hc) m n 2,
      fun hc => loadPostInc_fault (State.load32_bad hc) m n 4, List.forall_mem_nil _⟩,
      ⟨fun hc => loadInto_fault (s := s.preDec m 1) (State.load8s_bad hc) 2 0,
      fun hc => loadInto_fault (s := s.preDec m 2) (State.load16s_bad hc) 2 0,
      fun hc => loadInto_fault (s := s.preDec m 4) (State.load32_bad hc) 2 0, List.forall_mem_nil _⟩⟩
  case loadControl =>
    exact ⟨⟨loadControl_fault hc (fun _ => rfl) fun _ => rfl, loadControl_fault hc (fun _ => rfl) fun _ => rfl,
      loadControl_fault hc (fun _ => rfl) fun _ => rfl, loadControl_fault hc (fun _ => rfl) fun _ => rfl,
      loadControl_fault hc (fun _ => rfl) fun _ => rfl, loadControl_fault hc (fun _ => rfl) fun _ => rfl,
      List.forall_mem_nil _⟩,
      fun hf => ⟨State.withFpu_exists hf (loadControl_fault hc (f := s.setFpul) (fun _ => rfl) fun _ => rfl),
      State.withFpu_exists hf (loadControl_fault hc (f := s.setFpscr) (fun _ => rfl) fun _ => rfl),
      List.forall_mem_nil _⟩⟩
  case stores =>
    have wide {t : State} (hs : s.slot = .none) (ht : t = s.addressError) := State.outsideSlot_fault hs ht rfl
    exact ⟨⟨fun hc => State.done_fault (State.store8_bad hc _) 2, fun hc => State.done_fault (State.store8_bad hc _) 2,
      fun hc => State.done_fault (State.store8_bad hc _) 2, fun hc => State.done_fault (State.store8_bad hc _) 2,
      fun hc => State.done_fault (State.store16_bad hc _) 2, fun hc => State.done_fault (State.store16_bad hc _) 2,
      fun hc => State.done_fault (State.store16_bad hc _) 2, fun hc => State.done_fault (State.store16_bad hc _) 2,
      fun hc => State.done_fault (State.store32_bad hc _) 2, fun hc => State.done_fault (State.store32_bad hc _) 2,
      fun hc => State.done_fault (State.store32_bad hc _) 2, fun hc => State.done_fault (State.store32_bad hc _) 2,
      fun hc => (execTasB_fault hc).trans (State.done_fault rfl 2), List.forall_mem_nil _⟩,
      fun hs => ⟨fun hc => wide hs (State.store8_bad hc _), fun hc => wide hs (State.store16_bad hc _),
      fun hc => wide hs (State.store32_bad hc _), fun hc => wide hs (State.testByte_bad hc _),
      fun hc => wide hs (State.testByte_bad hc _), fun hc => wide hs (State.testByte_bad hc _),
      fun hc => wide hs (State.testByte_bad hc _), fun hc => wide hs (State.testByte_bad hc _),
      fun hc => wide hs (State.testByte_bad hc _), fun hc => wide hs (State.testByte_bad hc _),
      fun hc => wide hs (State.modifyByte_bad hc _), fun hc => wide hs (State.modifyByte_bad hc _),
      fun hc => wide hs (State.modifyByte_bad hc _), List.forall_mem_nil _⟩,
      ⟨fun hc => State.done_fault_moved (State.store8_bad hc _) n _,
      fun hc => State.done_fault_moved (State.store16_bad hc _) n _,
      fun hc => State.done_fault_moved (State.store32_bad hc _) n _,
      fun hc => storeControl_fault hc _, fun hc => storeControl_fault hc _, fun hc => storeControl_fault hc _,
      fun hc => storeControl_fault hc _, fun hc => storeControl_fault hc _, fun hc => storeControl_fault hc _,
      List.forall_mem_nil _⟩,
      ⟨fun hc => State.done_fault_moved (State.store8_bad hc _) n _,
      fun hc => State.done_fault_moved (State.store16_bad hc _) n _,
      fun hc => State.done_fault_moved (State.store32_bad hc _) n _, List.forall_mem_nil _⟩⟩
  case modify =>
    exact ⟨State.done_fault (State.modifyByte_bad hc _) 2, State.done_fault (State.modifyByte_bad hc _) 2,
      State.done_fault (State.modifyByte_bad hc _) 2, State.done_fault (State.testByte_bad hc _) 2,
      List.forall_mem_nil _⟩
  case mac =>
    exact ⟨fun hc => (execMacL_fault hc).trans (State.done_fault rfl 2),
      fun hc => (execMacW_fault hc).trans (State.done_fault rfl 2)⟩
  case single =>
    have load {r : Word × State} (hr : r = (s.open32, (s.drawn 1).addressError)) :
        ∃ v, s.withFpu 2 ((frInto n r).done 2) = .next ((({ s.setFreg n v with
          freeCount := s.freeCount + 1 } : State).after 2).raise .cpuAddressError (s.following 2)) := by
      obtain ⟨v, hv⟩ := frInto_fault hr n
      exact ⟨v, (State.withFpu_ready hf 2 _).trans (State.done_fault hv 2)⟩
    refine ⟨⟨fun hc => load (State.load32_bad hc), fun hc => load (State.load32_bad hc), List.forall_mem_nil _⟩,
      fun hc => ?_, fun hs hc => ?_⟩
    · obtain ⟨v, hv⟩ := frInto_fault (State.load32_bad hc) n
      exact ⟨v, (State.withFpu_ready hf 2 _).trans (State.done_fault_moved hv m _)⟩
    · obtain ⟨v, hv⟩ := frInto_fault (State.load32_bad hc) n
      exact ⟨v, (State.withFpu_ready hf 4 _).trans (State.outsideSlot_fault hs hv rfl)⟩
  case pair =>
    have load {r : Quad × State} (hr : r = (s.open64, (s.drawn 2).addressError)) :
        ∃ v, s.withFpu 2 ((drInto n r).done 2) = .next ((({ s.setDreg n v with
          freeCount := s.freeCount + 2 } : State).after 2).raise .cpuAddressError (s.following 2)) := by
      obtain ⟨v, hv⟩ := drInto_fault hr n
      exact ⟨v, (State.withFpu_ready hf 2 _).trans (State.done_fault hv 2)⟩
    refine ⟨⟨fun hc => load (State.load64_bad hc), fun hc => load (State.load64_bad hc), List.forall_mem_nil _⟩,
      fun hc => ?_, fun hs hc => ?_⟩
    · obtain ⟨v, hv⟩ := drInto_fault (State.load64_bad hc) n
      exact ⟨v, (State.withFpu_ready hf 2 _).trans (State.done_fault_moved hv m _)⟩
    · obtain ⟨v, hv⟩ := drInto_fault (State.load64_bad hc) n
      exact ⟨v, (State.withFpu_ready hf 4 _).trans (State.outsideSlot_fault hs hv rfl)⟩
  case fpuStores =>
    have ready {len : Word} {r r' : Res} (hr : r = r') : s.withFpu len r = r' := (State.withFpu_ready hf len r).trans hr
    exact ⟨⟨fun hc => ready (State.done_fault (State.store32_bad hc _) 2),
      fun hc => ready (State.done_fault (State.store32_bad hc _) 2),
      fun hc => ready (State.done_fault (State.store64_bad hc _) 2),
      fun hc => ready (State.done_fault (State.store64_bad hc _) 2), List.forall_mem_nil _⟩,
      fun hs => ⟨fun hc => ready (State.outsideSlot_fault hs (State.store32_bad hc _) rfl),
      fun hc => ready (State.outsideSlot_fault hs (State.store64_bad hc _) rfl), List.forall_mem_nil _⟩,
      ⟨fun hc => ready (storeControl_fault hc _), fun hc => ready (storeControl_fault hc _),
      fun hc => ready (State.done_fault_moved (State.store32_bad hc _) n _),
      fun hc => ready (State.done_fault_moved (State.store64_bad hc _) n _), List.forall_mem_nil _⟩⟩
  case jsrNTbr =>
    rw [← dispScaled_longword] at hc
    have hfault : execJsrNTbr d s =
        .next (((s.link (s.pc + 2)).after 2).raise .cpuAddressError (s.following 2)) :=
      (execJsrNTbr_fault hs hc).trans (State.done_fault rfl 2)
    rw [State.following_none hs] at hfault
    exact hfault
  case rte => exact State.execRte_fault hs hc
  case resbank =>
    have h := s.popBank_allowed
    have hfault := (execResbank_stack hs hp hbo).trans (h.done_raised hs hc)
    generalize s.popBank = t at h hfault
    obtain ⟨hspecials, hmemory, hfregs, hsr, hbanks, hplatform, hpower⟩ := h.unchanged (s.pc + 2)
    exact ⟨t.goto (s.pc + 2), hfault, h.sp, h.general, h.pr, h.gbr, h.mach, h.macl, hspecials, hmemory, hfregs, hsr,
      hbanks, hplatform, rfl, rfl, hpower⟩
  case movmlPush =>
    obtain ⟨j, hj, hbad⟩ := hc
    have h := (s.movmlPush_pushed m hm hp).after
    exact ⟨_, State.movmlPush_fault hm hp hj hbad, h.sp_range, fun j hj hc => h.read_range hj hc,
      fun a ha => h.keep_range ha, h.regs, h.specials, h.fregs, h.status, h.banks, h.platform, h.pc, h.slot, h.power⟩
  case movmuPush =>
    obtain ⟨j, hj, hj16, hbad⟩ := hc
    have h := (s.movmuPush_pushed m hm hp).after
    exact ⟨_, State.movmuPush_fault hm hp hj hj16 hbad, h.sp_range', fun j ⟨hj, hj16⟩ hc => h.read_range' hj hj16 hc,
      fun a ha => h.keep_range' ha, h.regs, h.specials, h.fregs, h.status, h.banks, h.platform, h.pc, h.slot, h.power⟩
  case movmlPop =>
    obtain ⟨j, hj, -, hbad⟩ := hc
    have h := (s.movmlPop_popped n).after
    refine ⟨_, State.movmlPop_fault hj hbad, h.sp_range, fun j hj15 => ?_, ?_, h.specials, h.memory,
      h.fregs, h.status, h.banks, h.platform, h.pc, h.slot, h.power⟩
    · split
      · next hj => exact fun hc => (State.listReg_general _ hj15).symm.trans (h.read_range hj hc)
      · next hj => exact h.general_range (by omega) hj15
    · split
      · next hn => exact fun hc => h.pr_range hn hc
      · next hn => exact h.pr_range_same hn
  case movmuPop =>
    obtain ⟨j, hj, hj16, hbad⟩ := hc
    have hn := n.isLt
    have h := (s.movmuPop_popped n).after
    refine ⟨_, State.movmuPop_fault hj hj16 hbad, h.sp_range', fun j hj15 => ?_,
      fun hc => h.read_range' (j := 15) (by omega) (by omega) hc,
      h.specials, h.memory, h.fregs, h.status, h.banks, h.platform, h.pc, h.slot, h.power⟩
    split
    · next hj => exact fun hc => (State.listReg_general _ hj15).symm.trans (h.read_range' hj (by omega) hc)
    · next hj => exact h.general_range' (by omega) hj15
  case bankAddress =>
    have hentry : s.bankEntry? (s.reg n) = none := State.bankEntry?_none hn
    exact ⟨execLdbank_fault hp hentry, execStbank_fault hp hentry⟩
  case reset =>
    rw [step_reset hk]
    rw [← State.canAccess_congr s.environment_cfg, ← State.canAccess_congr s.environment_cfg] at hc
    exact State.resetMachine_refused hc

end Sys2Proof.Machine

/-!
PROOFS of the statements of the arithmetic instructions (O8 to O12): flags, clips, division and multiplication.
-/

/-! ### Sums, differences and comparisons -/

namespace Sys2Proof.Machine

open Sys2Proof

theorem bitWord_eq (b : Bool) : bitWord b = BitVec.ofNat 32 b.toNat := by cases b <;> rfl

/-- The sum that ADDC leaves in Rn is the exact one, wrapped (R303). -/
theorem ofNat_sum_carry (a b : Word) (c : Bool) :
    BitVec.ofNat 32 (a.toNat + b.toNat + c.toNat) = a + b + bitWord c := by
  simp [BitVec.ofNat_add, bitWord_eq]

/-- Wrapping changes exactly the integers that no longword stands for. -/
theorem bmod_ne_self_iff (x : Int) : x.bmod (2 ^ 32) ≠ x ↔ 2 ^ 31 ≤ x ∨ x < -2 ^ 31 := by
  rw [ne_eq, Int.bmod_eq_iff (by decide)]
  omega

/-- A signed sum overflows when operands of one sign give a result of the other (R304). -/
theorem addOverflows_eq (a b : Word) : addOverflows a b = (a.msb == b.msb && (a + b).msb != a.msb) := by
  have hrange : addOverflows a b = a.saddOverflow b := by
    simp only [addOverflows, BitVec.saddOverflow, BitVec.toInt_add, bmod_ne_self_iff, Bool.decide_or, ge_iff_le]
  rw [hrange, BitVec.saddOverflow_eq]
  rfl

/-- A signed difference overflows when operands of different signs give a result without the minuend's sign (R342). -/
theorem subOverflows_eq (a b : Word) : subOverflows a b = (a.msb != b.msb && (a - b).msb != a.msb) := by
  have hrange : subOverflows a b = a.ssubOverflow b := by
    simp only [subOverflows, BitVec.ssubOverflow, BitVec.toInt_sub, bmod_ne_self_iff, Bool.decide_or, ge_iff_le]
  rw [hrange, BitVec.ssubOverflow_eq]
  cases a.msb <;> cases b.msb <;> simp

/-- Negating borrows unless there is nothing to subtract (R339). -/
theorem borrowOut_zero (b : Word) (c : Bool) : borrowOut 0 b c = (b != 0 || c) := by
  have hpos : 0 < b.toNat ↔ b ≠ 0 := by bv_omega
  rw [Bool.eq_iff_iff]
  cases c <;> simp [borrowOut, hpos]

section Answers

variable {s : State} (hh : s.held = false)
include hh

/-- A flag and a value into a general register end the instruction. -/
theorem State.setT_putReg_after (b : Bool) (n : GReg) (v : Word) :
    (s.setT b).putReg 2 n v = .next (((s.setT b).setReg n v).after 2) :=
  State.putReg_after (s := s.setT b) hh 2 n v

/-- A comparison ends with T set exactly when its relation holds. -/
theorem State.setT_done_of_iff {p : Prop} {b c : Bool} (hc : c = true ↔ p) (hb : b = true ↔ p) :
    (s.setT c).done 2 = .next ((s.setT b).after 2) := by
  rw [Bool.eq_iff_iff.mpr (hc.trans hb.symm)]
  exact State.done_after (s := s.setT b) hh 2

end Answers

/-- Settles O8: each is a value into a register, beside the flag its rule gives. -/
theorem add_subtract_negate : Obligations.add_subtract_negate := by
  unfold Obligations.add_subtract_negate
  refine ⟨fun m n s => ⟨rfl, fun hh => State.putReg_after hh 2 n _⟩,
    fun n i s => ⟨rfl, fun hh => State.putReg_after hh 2 n _⟩, fun m n s => ⟨rfl, fun hh sum hsum => ?addc⟩,
    fun m n s => ⟨rfl, fun hh r hr => ?addv⟩, fun m n s => ⟨rfl, fun hh => State.putReg_after hh 2 n _⟩,
    fun m n s => ⟨rfl, fun hh => ?negc⟩, fun m n s => ⟨rfl, fun hh => State.putReg_after hh 2 n _⟩,
    fun m n s => ⟨rfl, fun hh => ?subc⟩, fun m n s => ⟨rfl, fun hh r hr => ?subv⟩,
    fun n s => ⟨rfl, fun hh => State.setT_putReg_after hh _ n _⟩⟩
  case addc =>
    rw [hsum, ofNat_sum_carry]
    exact State.setT_putReg_after hh _ n _
  case addv =>
    rw [hr, ← addOverflows_eq]
    exact State.setT_putReg_after hh _ n _
  case negc =>
    rw [← borrowOut_zero, ← bitWord_eq]
    exact State.setT_putReg_after hh _ n _
  case subc =>
    rw [← bitWord_eq]
    exact State.setT_putReg_after hh _ n _
  case subv =>
    rw [hr, ← subOverflows_eq]
    exact State.setT_putReg_after hh _ n _

/-- CMP/STR finds the place of a byte that the two longwords share (R313). -/
theorem anyByteEqual_iff (a b : Word) :
    anyByteEqual a b = true ↔ ∃ k : Nat, k < 4 ∧ a.extractLsb' (8 * k) 8 = b.extractLsb' (8 * k) 8 := by
  simp only [anyByteEqual, Bool.or_eq_true, beq_iff_eq]
  constructor
  · rintro (((h | h) | h) | h)
    · exact ⟨0, by omega, h⟩
    · exact ⟨1, by omega, h⟩
    · exact ⟨2, by omega, h⟩
    · exact ⟨3, by omega, h⟩
  · rintro ⟨k, hk, h⟩
    match k, hk with
    | 0, _ => exact .inl (.inl (.inl h))
    | 1, _ => exact .inl (.inl (.inr h))
    | 2, _ => exact .inl (.inr h)
    | 3, _ => exact .inr h

/-- Settles O9: each comparison of longwords decides its relation of integers. -/
theorem comparisons : Obligations.comparisons := by
  unfold Obligations.comparisons
  exact ⟨fun i s => ⟨rfl, fun hh b hb => State.setT_done_of_iff hh beq_iff_eq hb⟩,
    fun m n s => ⟨rfl, fun hh b hb => State.setT_done_of_iff hh beq_iff_eq hb⟩,
    fun m n s => ⟨rfl, fun hh b hb => State.setT_done_of_iff hh BitVec.ule_iff_toNat_le hb⟩,
    fun m n s => ⟨rfl, fun hh b hb => State.setT_done_of_iff hh BitVec.sle_iff_toInt_le hb⟩,
    fun m n s => ⟨rfl, fun hh b hb => State.setT_done_of_iff hh BitVec.ult_iff_toNat_lt hb⟩,
    fun m n s => ⟨rfl, fun hh b hb => State.setT_done_of_iff hh BitVec.slt_iff_toInt_lt hb⟩,
    fun n s => ⟨rfl, fun hh b hb => State.setT_done_of_iff hh BitVec.slt_iff_toInt_lt hb⟩,
    fun n s => ⟨rfl, fun hh b hb => State.setT_done_of_iff hh BitVec.sle_iff_toInt_le hb⟩,
    fun m n s => ⟨rfl, fun hh b hb => State.setT_done_of_iff hh (anyByteEqual_iff _ _) hb⟩⟩

/-! ### Extensions and clips -/

section Clips

variable (s : State) (n : GReg)

@[simp] theorem State.clipSigned_held (low high : Word) : (s.clipSigned n low high).held = s.held := by
  unfold State.clipSigned
  split
  · rfl
  · split <;> rfl

@[simp] theorem State.clipUnsigned_held (high : Word) : (s.clipUnsigned n high).held = s.held := by
  unfold State.clipUnsigned
  split <;> rfl

/-- A signed clip by its bounds as integers (R314, R315). -/
theorem State.clipSigned_eq (low high : Word) : s.clipSigned n low high =
    if high.toInt < (s.reg n).toInt then (s.setReg n high).setCs true
    else if (s.reg n).toInt < low.toInt then (s.setReg n low).setCs true else s := by
  simp only [State.clipSigned, BitVec.slt_iff_toInt_lt]

/-- An unsigned clip by its bound as a natural number (R316, R317). -/
theorem State.clipUnsigned_eq (high : Word) : s.clipUnsigned n high =
    if high.toNat < (s.reg n).toNat then (s.setReg n high).setCs true else s := by
  simp only [State.clipUnsigned, BitVec.ult_iff_toNat_lt]

variable {s} (hh : s.held = false)
include hh

theorem State.clipSigned_after (low high : Word) : (s.clipSigned n low high).done 2 =
    .next ((if high.toInt < (s.reg n).toInt then (s.setReg n high).setCs true
      else if (s.reg n).toInt < low.toInt then (s.setReg n low).setCs true else s).after 2) := by
  rw [State.done_after ((s.clipSigned_held n low high).trans hh), State.clipSigned_eq]

theorem State.clipUnsigned_after (high : Word) : (s.clipUnsigned n high).done 2 =
    .next ((if high.toNat < (s.reg n).toNat then (s.setReg n high).setCs true else s).after 2) := by
  rw [State.done_after ((s.clipUnsigned_held n high).trans hh), State.clipUnsigned_eq]

end Clips

/-- Settles O10: the extensions are values into a register, the clips compare with their bounds as integers. -/
theorem extend_and_clip : Obligations.extend_and_clip := by
  unfold Obligations.extend_and_clip
  exact ⟨fun m n s => ⟨rfl, fun hh => State.putReg_after hh 2 n _⟩,
    fun m n s => ⟨rfl, fun hh => State.putReg_after hh 2 n _⟩,
    fun m n s => ⟨rfl, fun hh => State.putReg_after hh 2 n _⟩,
    fun m n s => ⟨rfl, fun hh => State.putReg_after hh 2 n _⟩,
    fun n s => ⟨rfl, fun hh => State.clipSigned_after n hh 0xFFFFFF80 0x0000007F⟩,
    fun n s => ⟨rfl, fun hh => State.clipSigned_after n hh 0xFFFF8000 0x00007FFF⟩,
    fun n s => ⟨rfl, fun hh => State.clipUnsigned_after n hh 0x000000FF⟩,
    fun n s => ⟨rfl, fun hh => State.clipUnsigned_after n hh 0x0000FFFF⟩⟩

/-! ### Division -/

/-- An integer that a signed number of its width stands for is that number, wrapped. -/
theorem ofInt_of_toInt {w : Nat} {p : BitVec w} {x : Int} (h : p.toInt = x) : BitVec.ofInt w x = p := by
  rw [← h, BitVec.ofInt_toInt]

theorem ofNat_of_toNat {w : Nat} {p : BitVec w} {x : Nat} (h : p.toNat = x) : BitVec.ofNat w x = p := by
  rw [← h, BitVec.ofNat_toNat, BitVec.setWidth_eq]

/-- A write of one bit of a longword is seen at that bit. -/
theorem getElem_withBit (w : Word) (k : Nat) (b : Bool) (i : Nat) (hi : i < 32) :
    (withBit w k b)[i] = if i = k then b else w[i] := by
  have hone : (1#32 <<< k)[i] = decide (i = k) := by
    rw [BitVec.getElem_shiftLeft, BitVec.getElem_one]
    grind
  by_cases hik : i = k <;> cases b <;> simp [withBit, hone, hik]

/-- Writes of different bits may change places. -/
theorem withBit_comm (w : Word) {j k : Nat} (hjk : j ≠ k) (a b : Bool) :
    withBit (withBit w j a) k b = withBit (withBit w k b) j a := by
  ext i hi
  simp only [getElem_withBit]
  grind

theorem State.setQ_setM (s : State) (a b : Bool) : (s.setQ a).setM b = (s.setM b).setQ a := by
  simp only [State.setQ, State.setM, withBit_comm s.sr (show 8 ≠ 9 by decide) a b]

theorem State.setReg_setReg_same (s : State) (n : GReg) (v w : Word) : (s.setReg n v).setReg n w = s.setReg n w := by
  simp [State.setReg]

/-- One step of division by its parts: the shifted dividend, the divisor read after the shift, the partial remainder,
and whether it passed zero (R320). -/
theorem execDiv1_eq {m n : GReg} {s : State} {a d r : Word} {c q' : Bool} (ha : a = (s.reg n <<< 1) ||| bitWord s.t)
    (hd : d = if n = m then a else s.reg m) (hr : r = if s.q == s.m then a - d else a + d)
    (hc : c = if s.q == s.m then a.ult r else r.ult a) (hq : q' = (((s.reg n).msb ^^ s.m) ^^ c)) :
    execDiv1 m n s = (((s.setReg n r).setQ q').setT (q' == s.m)).done 2 := by
  subst ha hd hr hc hq
  simp only [execDiv1, State.setReg_setReg_same, State.reg_setReg]

section WholeDivision

variable {s : State} {n : GReg} (hs : s.slot = .none)
include hs

theorem execDivs_zero (h : s.reg 0 = 0) : execDivs n s = .next (s.raise .divideByZero s.pc) := by
  rw [execDivs, State.outsideSlot_none hs, if_pos h]

theorem execDivs_overflow (hn : s.reg n = 0x80000000) (h : s.reg 0 = 0xFFFFFFFF) :
    execDivs n s = .next (s.raise .divideOverflow s.pc) := by
  have hzero : s.reg 0 ≠ 0 := by rw [h]; decide
  rw [execDivs, State.outsideSlot_none hs, if_neg hzero, if_pos ⟨hn, h⟩]

theorem execDivs_quotient (hzero : s.reg 0 ≠ 0) (h : ¬(s.reg n = 0x80000000 ∧ s.reg 0 = 0xFFFFFFFF)) :
    execDivs n s = s.putReg 2 n (BitVec.ofInt 32 ((s.reg n).toInt.tdiv (s.reg 0).toInt)) := by
  rw [execDivs, State.outsideSlot_none hs, if_neg hzero, if_neg h]

theorem execDivu_zero (h : s.reg 0 = 0) : execDivu n s = .next (s.raise .divideByZero s.pc) := by
  rw [execDivu, State.outsideSlot_none hs, if_pos h]

theorem execDivu_quotient (hzero : s.reg 0 ≠ 0) :
    execDivu n s = s.putReg 2 n (BitVec.ofNat 32 ((s.reg n).toNat / (s.reg 0).toNat)) := by
  rw [execDivu, State.outsideSlot_none hs, if_neg hzero]

end WholeDivision

/-- Settles O11: the division step by its parts, the whole divisions by their cases. -/
theorem division : Obligations.division := by
  unfold Obligations.division
  refine ⟨fun m n s => ⟨rfl, fun hh => State.done_after (s := ((s.setQ _).setM _).setT _) hh 2⟩,
    fun s => ⟨rfl, fun hh => ?div0u⟩, fun m n s => ⟨rfl, fun hh a d r c q' ha hd hr hc hq => ?div1⟩,
    fun n s => ⟨rfl, fun hh hs => ⟨fun hzero => execDivs_zero hs hzero, fun hn h => execDivs_overflow hs hn h,
      fun hzero h => ?divs⟩⟩,
    fun n s => ⟨rfl, fun hh hs => ⟨fun hzero => execDivu_zero hs hzero, fun hzero => ?divu⟩⟩⟩
  case div0u =>
    rw [← State.setQ_setM]
    exact State.done_after (s := ((s.setQ false).setM false).setT false) hh 2
  case div1 =>
    have hstep : execDiv1 m n s = (((s.setReg n r).setQ q').setT (q' == s.m)).done 2 := by
      refine execDiv1_eq (c := c) ha (hd.trans (if_congr eq_comm rfl rfl)) (by simpa using hr) ?_ ?_
      · simpa [BitVec.ult_eq_decide] using hc
      · rw [hq]
        cases s.m <;> cases (s.reg n).msb <;> cases c <;> rfl
    exact hstep.trans (State.done_after (s := ((s.setReg n r).setQ q').setT _) hh 2)
  case divs =>
    have hquotient : ((s.reg n).sdiv (s.reg 0)).toInt = (s.reg n).toInt.tdiv (s.reg 0).toInt :=
      BitVec.toInt_sdiv_of_ne_or_ne _ _ (not_and_or.mp h)
    refine ⟨_, hquotient, (execDivs_quotient hs hzero h).trans ?_⟩
    rw [ofInt_of_toInt hquotient]
    exact State.putReg_after hh 2 n _
  case divu =>
    have hquotient : (s.reg n / s.reg 0).toNat = (s.reg n).toNat / (s.reg 0).toNat := BitVec.toNat_udiv
    refine ⟨_, hquotient, (execDivu_quotient hs hzero).trans ?_⟩
    rw [ofNat_of_toNat hquotient]
    exact State.putReg_after hh 2 n _

/-! ### Multiplication -/

section Products

variable {s : State} (hh : s.held = false)
include hh

/-- A product into MACL ends the instruction; MACH stays (R334). -/
theorem State.setMacl_after (v : Word) : State.done { s with macl := v } 2 = .next ((s.setMacl v).after 2) :=
  State.done_after (s := s.setMacl v) hh 2

/-- A product into MACH and MACL ends the instruction (R325). -/
theorem State.setMac_after (v : Quad) : (s.setMac v).done 2 = .next ((s.setMac v).after 2) :=
  State.done_after (s := s.setMac v) hh 2

end Products

/-- The limits of a saturation, as the largest number and the smallest. -/
theorem clampSigned_eq (w : Nat) (x : Int) : clampSigned w x =
    if 2 ^ (w - 1) - 1 < x then 2 ^ (w - 1) - 1 else if x < -(2 ^ (w - 1)) then -(2 ^ (w - 1)) else x := by
  simp only [clampSigned, Int.sub_one_lt_iff]

/-- MAC.L with S = 1 saturates to 48 bits and extends the sign (R330, D18). -/
theorem macLResult_saturate (acc : Quad) (a b : Word) {sum : Int}
    (h : sum = (acc.extractLsb' 0 48).toInt + a.toInt * b.toInt) :
    macLResult true acc a b = BitVec.ofInt 64 (if 0x00007FFFFFFFFFFF < sum then 0x00007FFFFFFFFFFF
      else if sum < -0x0000800000000000 then -0x0000800000000000 else sum) := by
  rw [h, ← BitVec.setWidth_eq_extractLsb' (by decide)]
  refine congrArg (BitVec.ofInt 64) ((clampSigned_eq 48 _).trans ?_)
  norm_num

@[simp] theorem highWord_append (a b : Word) : highWord (a ++ b) = a := BitVec.extractLsb'_append_eq_left
@[simp] theorem lowWord_append (a b : Word) : lowWord (a ++ b) = b := BitVec.extractLsb'_append_eq_right

/-- MAC.W with S = 1 saturates MACL to 32 bits, and an overflow sets MACH to 1 (R331). -/
theorem macWResult_saturate (mach macl : Word) (a b : Half) {sum : Int} (h : sum = macl.toInt + a.toInt * b.toInt) :
    macWResult true (mach ++ macl) a b = if 0x7FFFFFFF < sum then 0x00000001#32 ++ 0x7FFFFFFF#32
      else if sum < -0x80000000 then 0x00000001#32 ++ 0x80000000#32 else mach ++ BitVec.ofInt 32 sum := by
  have hclamp : clampSigned 32 sum =
      if 0x7FFFFFFF < sum then 0x7FFFFFFF else if sum < -0x80000000 then -0x80000000 else sum :=
    (clampSigned_eq 32 sum).trans (by norm_num)
  simp only [macWResult, lowWord_append, highWord_append, ← h, hclamp, if_true]
  by_cases hhigh : 0x7FFFFFFF < sum
  · rw [if_pos hhigh, if_pos hhigh, if_neg (by omega)]
    rfl
  · by_cases hlow : sum < -0x80000000
    · rw [if_neg hhigh, if_neg hhigh, if_pos hlow, if_pos hlow, if_neg (by omega)]
      rfl
    · rw [if_neg hhigh, if_neg hhigh, if_neg hlow, if_neg hlow, if_pos rfl]

theorem State.macAddr_eq (s : State) (m n : GReg) (size : Word) :
    s.macAddr m n size = if m = n then s.reg n + size else s.reg m :=
  (s.reg_setReg n m _).trans (if_congr eq_comm rfl rfl)

/-- The address registers after both reads, by the addresses that were read (R330). -/
theorem State.macAdvance_eq (s : State) (m n : GReg) (size : Word) :
    s.macAdvance m n size = (s.setReg n (s.reg n + size)).setReg m (s.macAddr m n size + size) := rfl

section Accumulation

variable {s : State} {m n : GReg} {an am : Word} (hh : s.held = false) (han : an = s.reg n)
include hh han

/-- MAC.L with both operands readable (R330). -/
theorem execMacL_ok (ham : am = if m = n then s.reg n + 4 else s.reg m) (hn : s.canAccess 4 an = true)
    (hm : s.canAccess 4 am = true) : execMacL m n s =
      .next ((((s.setReg n (an + 4)).setReg m (am + 4)).setMac
        (macLResult s.sBit s.mac (s.peek32 an) (s.peek32 am))).after 2) := by
  rw [← State.macAddr_eq] at ham
  subst han ham
  rw [execMacL, State.read32_ok hn, State.read32_ok hm, ← State.macAdvance_eq]
  exact State.done_after (s := (s.macAdvance m n 4).setMac _) hh 2

/-- MAC.W with both operands readable (R331). -/
theorem execMacW_ok (ham : am = if m = n then s.reg n + 2 else s.reg m) (hn : s.canAccess 2 an = true)
    (hm : s.canAccess 2 am = true) : execMacW m n s =
      .next ((((s.setReg n (an + 2)).setReg m (am + 2)).setMac
        (macWResult s.sBit s.mac (s.peek16 an) (s.peek16 am))).after 2) := by
  rw [← State.macAddr_eq] at ham
  subst han ham
  rw [execMacW, State.read16_ok hn, State.read16_ok hm, ← State.macAdvance_eq]
  exact State.done_after (s := (s.macAdvance m n 2).setMac _) hh 2

end Accumulation

/-- Settles O12: exact products, and accumulations by S. -/
theorem multiplication : Obligations.multiplication := by
  unfold Obligations.multiplication
  refine ⟨fun m n s => ⟨rfl, fun hh p hp => ?dmulsL⟩, fun m n s => ⟨rfl, fun hh p hp => ?dmuluL⟩,
    fun m n s => ⟨rfl, fun hh => State.setMacl_after hh _⟩,
    fun n s => ⟨rfl, fun hh => State.putReg_after hh 2 n _⟩,
    fun m n s => ⟨rfl, fun hh p hp => ?mulsW⟩, fun m n s => ⟨rfl, fun hh p hp => ?muluW⟩,
    fun m n s => ⟨rfl, fun an am p sum han ham hp hh hn hm => ?macL⟩,
    fun m n s => ⟨rfl, fun an am p sum han ham hp hh hn hm => ?macW⟩⟩
  case dmulsL =>
    rw [← ofInt_of_toInt hp]
    exact State.setMac_after hh _
  case dmuluL =>
    rw [← ofNat_of_toNat hp]
    exact State.setMac_after hh _
  case mulsW =>
    rw [← ofInt_of_toInt hp]
    exact State.setMacl_after hh _
  case muluW =>
    rw [← ofNat_of_toNat hp]
    exact State.setMacl_after hh _
  case macL =>
    have hexec : exec (.macL m n) s = _ := execMacL_ok hh han ham hn hm
    subst hp
    refine ⟨fun hwrap => ?_, fun hsat hsum => ?_⟩
    · rw [hexec, hwrap]
      rfl
    · rw [hexec, hsat, macLResult_saturate _ _ _ hsum]
  case macW =>
    have hexec : exec (.macW m n) s = _ := execMacW_ok hh han ham hn hm
    subst hp
    refine ⟨fun hwrap => ?_, fun hsat hsum => ?_⟩
    · rw [hexec, hwrap]
      rfl
    · rw [hexec, hsat, State.mac, macWResult_saturate _ _ _ _ hsum]

end Sys2Proof.Machine

/-!
PROOFS of the statements of the logic instructions (O13), and of the instructions that change bits of a byte or of a
register in place (O19).
-/

/-! ### Logic on registers and immediates -/

namespace Sys2Proof.Machine

open Sys2Proof

/-- Settles O13: each is a value into a register, or T; the immediates are zero-extended by definition. -/
theorem logic : Obligations.logic := by
  unfold Obligations.logic
  exact ⟨fun m n s => ⟨rfl, fun hh => State.putReg_after hh 2 n _⟩,
    fun i s => ⟨rfl, fun hh => State.putReg_after hh 2 0 _⟩,
    fun m n s => ⟨rfl, fun hh => State.putReg_after hh 2 n _⟩,
    fun m n s => ⟨rfl, fun hh => State.putReg_after hh 2 n _⟩,
    fun i s => ⟨rfl, fun hh => State.putReg_after hh 2 0 _⟩,
    fun m n s => ⟨rfl, fun hh => State.done_after (s := s.setT _) hh 2⟩,
    fun i s => ⟨rfl, fun hh => State.done_after (s := s.setT _) hh 2⟩,
    fun m n s => ⟨rfl, fun hh => State.putReg_after hh 2 n _⟩,
    fun i s => ⟨rfl, fun hh => State.putReg_after hh 2 0 _⟩⟩

/-! ### Bits changed in place -/

/-- A bit that is set afterwards need not be cleared first. -/
theorem and_not_or_self {w : Nat} (v b : BitVec w) : (v &&& ~~~b) ||| b = v ||| b := by
  ext k hk
  cases hb : b[k] <;> simp [hb]

/-- BST clears the bit of a byte, then puts the new value in its place (R615). -/
theorem withBit8_eq (v : Byte) (i : BitVec 3) (b : Bool) :
    withBit8 v i b = (v &&& ~~~(1#8 <<< i.toNat)) ||| ((if b then 1#8 else 0#8) <<< i.toNat) := by
  cases b
  · simp [withBit8]
  · simp [withBit8, and_not_or_self]

/-- The same for a register (R616). -/
theorem withBit_eq (v : Word) (k : Nat) (b : Bool) :
    withBit v k b = (v &&& ~~~(1#32 <<< k)) ||| ((if b then 1#32 else 0#32) <<< k) := by
  cases b
  · simp [withBit]
  · simp [withBit, and_not_or_self]

section InPlace

variable {s : State} (hh : s.held = false)
include hh

/-- An allowed read-modify-write of a byte ends the instruction (R361). -/
theorem State.modifyByte_after {a ea : Word} (hea : ea = a) (hc : s.canAccess 1 ea = true) (f : Byte → Byte)
    (len : Word) : (s.modifyByte a f).done len = .next ((s.poke ea (f (s.peek ea))).after len) := by
  subst hea
  exact State.done_stored hh (State.modifyByte_ok hc f) (State.poke_held ..) len

/-- Outside a slot an allowed bit store writes the byte with its bit (R601). -/
theorem State.bitInMemory_after {n : GReg} {d : BitVec 12} {ea : Word} (hs : s.slot = .none)
    (hea : ea = s.reg n + d.setWidth 32) (hc : s.canAccess 1 ea = true) (i : BitVec 3) (b : Bool) :
    s.bitInMemory n i d b = .next ((s.poke ea (withBit8 (s.peek ea) i b)).after 4) := by
  have haddr : ea = s.eaDisp n d 0 := by rw [hea, State.eaDisp, dispScaled_byte]
  exact (State.outsideSlot_none hs 4 _).trans (State.modifyByte_after hh haddr hc _ 4)

/-- An allowed TAS.B sets T from the byte as it was read, and sets the byte's top bit (R370). -/
theorem execTasB_after {n : GReg} (hc : s.canAccess 1 (s.reg n) = true) : execTasB n s =
    .next (((s.setT (s.peek (s.reg n) == 0)).poke (s.reg n) (s.peek (s.reg n) ||| 0x80)).after 2) :=
  (execTasB_ok hc).trans (State.done_after ((State.poke_held (s.setT _) ..).trans hh) 2)

end InPlace

/-- Settles O19: each writes the byte or the register that its rule makes; BST's two forms replace the bit by T. -/
theorem read_modify_write : Obligations.read_modify_write := by
  unfold Obligations.read_modify_write
  refine ⟨fun i s => ⟨rfl, fun hh ea hea hc => State.modifyByte_after hh hea hc (· &&& i) 2⟩,
    fun i s => ⟨rfl, fun hh ea hea hc => State.modifyByte_after hh hea hc (· ||| i) 2⟩,
    fun i s => ⟨rfl, fun hh ea hea hc => State.modifyByte_after hh hea hc (· ^^^ i) 2⟩,
    fun n s => ⟨rfl, fun hh hc => execTasB_after hh hc⟩,
    fun n i d s => ⟨rfl, fun hh hs ea hea hc => State.bitInMemory_after hh hs hea hc i false⟩,
    fun n i d s => ⟨rfl, fun hh hs ea hea hc => State.bitInMemory_after hh hs hea hc i true⟩,
    fun n i d s => ⟨rfl, fun hh hs ea hea hc => ?bstB⟩,
    fun n i s => ⟨rfl, fun hh => State.putReg_after hh 2 n _⟩,
    fun n i s => ⟨rfl, fun hh => State.putReg_after hh 2 n _⟩, fun n i s => ⟨rfl, fun hh => ?bstReg⟩⟩
  case bstB =>
    rw [← withBit8_eq]
    exact State.bitInMemory_after hh hs hea hc i s.t
  case bstReg =>
    rw [← withBit_eq]
    exact State.putReg_after hh 2 n _

end Sys2Proof.Machine

/-!
PROOFS of the statements of the shift instructions (O14, O15): the one-bit shifts and rotates as concatenations, and the
dynamic shifts by the count that Rm gives.
-/

/-! ### One-bit shifts and rotates -/

namespace Sys2Proof.Machine

open Sys2Proof

theorem shiftLeft_one_eq_append (v : Word) : v <<< 1 = v.extractLsb' 0 31 ++ 0#1 :=
  BitVec.shiftLeft_eq_concat_of_lt (by decide)
theorem ushiftRight_one_eq_append (v : Word) : v >>> 1 = 0#1 ++ v.extractLsb' 1 31 :=
  BitVec.ushiftRight_eq_extractLsb'_of_lt (by decide)

/-- A bit that enters at the bottom of a register shifted left (R391, R393). -/
theorem shiftLeft_one_or (v : Word) (b : BitVec 1) : (v <<< 1) ||| (0#31 ++ b) = v.extractLsb' 0 31 ++ b := by
  rw [shiftLeft_one_eq_append, BitVec.or_append, BitVec.or_zero, BitVec.zero_or]

/-- A bit that enters at the top of a register shifted right (R392, R394). -/
theorem ushiftRight_one_or (v : Word) (b : BitVec 1) : (v >>> 1) ||| (b ++ 0#31) = b ++ v.extractLsb' 1 31 := by
  rw [ushiftRight_one_eq_append, BitVec.or_append, BitVec.zero_or, BitVec.or_zero]

/-- T as the bit that enters at the bottom, and at the top. -/
theorem bitWord_eq_append (b : Bool) : bitWord b = 0#31 ++ BitVec.ofBool b := by cases b <;> rfl
theorem bitWord_shiftLeft_eq_append (b : Bool) : bitWord b <<< 31 = BitVec.ofBool b ++ 0#31 := by cases b <;> rfl

/-- A rotate is a shift with the bit shifted out entering at the other end. -/
theorem rotateLeft_one_eq_append (v : Word) : v.rotateLeft 1 = v.extractLsb' 0 31 ++ v.extractLsb' 31 1 := by
  have hout : v >>> 31 = 0#31 ++ v.extractLsb' 31 1 := BitVec.ushiftRight_eq_extractLsb'_of_lt (by decide)
  calc v.rotateLeft 1 = (v <<< 1) ||| (v >>> 31) := BitVec.rotateLeft_def
    _ = v.extractLsb' 0 31 ++ v.extractLsb' 31 1 := by rw [hout, shiftLeft_one_or]
theorem rotateRight_one_eq_append (v : Word) : v.rotateRight 1 = v.extractLsb' 0 1 ++ v.extractLsb' 1 31 := by
  have hout : v <<< 31 = v.extractLsb' 0 1 ++ 0#31 := BitVec.shiftLeft_eq_concat_of_lt (by decide)
  calc v.rotateRight 1 = (v >>> 1) ||| (v <<< 31) := BitVec.rotateRight_def
    _ = v.extractLsb' 0 1 ++ v.extractLsb' 1 31 := by rw [hout, ushiftRight_one_or]

/-- An arithmetic right shift keeps the sign bit above the bits it moves (R396). -/
theorem sshiftRight_one_eq_append (v : Word) : v.sshiftRight 1 = v.extractLsb' 31 1 ++ v.extractLsb' 1 31 := by
  ext k hk
  rw [BitVec.getElem_sshiftRight, BitVec.getElem_append]
  by_cases hlow : k < 31
  · have hmoved : 1 + k < 32 := by omega
    simp [hlow, hmoved]
  · obtain rfl : k = 31 := by omega
    simp [BitVec.msb_eq_getLsbD_last]

/-- A rotate through T brings its old value in (R393, R394). -/
theorem shiftLeft_one_or_bitWord (v : Word) (t : Bool) :
    (v <<< 1) ||| bitWord t = v.extractLsb' 0 31 ++ BitVec.ofBool t := by
  rw [bitWord_eq_append, shiftLeft_one_or]
theorem ushiftRight_one_or_bitWord (v : Word) (t : Bool) :
    (v >>> 1) ||| (bitWord t <<< 31) = BitVec.ofBool t ++ v.extractLsb' 1 31 := by
  rw [bitWord_shiftLeft_eq_append, ushiftRight_one_or]

/-- The bit shifted out into T and the shifted value into the register end the instruction (R390). -/
theorem State.shiftT_after {s : State} (hh : s.held = false) (n : GReg) {v w : Word} (hv : v = w) (t : Bool) :
    s.shiftT n v t = .next (((s.setT t).setReg n w).after 2) := by
  rw [← hv]
  exact State.setT_putReg_after hh t n v

/-- Settles O14: each is a value into a register beside the bit shifted out; the values are concatenations. -/
theorem one_bit_shifts : Obligations.one_bit_shifts := by
  unfold Obligations.one_bit_shifts
  exact ⟨fun n s => ⟨rfl, fun hh => State.shiftT_after hh n (rotateLeft_one_eq_append _) _⟩,
    fun n s => ⟨rfl, fun hh => State.shiftT_after hh n (rotateRight_one_eq_append _) _⟩,
    fun n s => ⟨rfl, fun hh => State.shiftT_after hh n (shiftLeft_one_or_bitWord _ _) _⟩,
    fun n s => ⟨rfl, fun hh => State.shiftT_after hh n (ushiftRight_one_or_bitWord _ _) _⟩,
    fun n s => ⟨rfl, fun hh => State.shiftT_after hh n (shiftLeft_one_eq_append _) _⟩,
    fun n s => ⟨rfl, fun hh => State.shiftT_after hh n (sshiftRight_one_eq_append _) _⟩,
    fun n s => ⟨rfl, fun hh => State.shiftT_after hh n (shiftLeft_one_eq_append _) _⟩,
    fun n s => ⟨rfl, fun hh => State.shiftT_after hh n (ushiftRight_one_eq_append _) _⟩⟩

/-! ### Shifts by several bits -/

/-- The count of a dynamic shift, the low five bits of Rm (R405). -/
theorem shiftCount_eq {c : Word} {k : Nat} (hk : k = (c.extractLsb' 0 5).toNat) : shiftCount c = k := by
  rw [hk, shiftCount, BitVec.setWidth_eq_extractLsb' (by decide)]

/-- An arithmetic right shift by 32 leaves the sign in every bit (R405). -/
theorem sshiftRight_width (v : Word) : v.sshiftRight 32 = if v.msb then 0xFFFFFFFF else 0 := by
  have hout (w : Word) : w >>> 32 = 0 := BitVec.ushiftRight_eq_zero (Nat.le_refl 32)
  cases hsign : v.msb
  · rw [BitVec.sshiftRight_eq_of_msb_false hsign, hout]
    rfl
  · rw [BitVec.sshiftRight_eq_of_msb_true hsign, hout]
    rfl

/-- The dynamic shifts by the sign of Rm and by the count; the count 0 to the right is a shift by 32 (R405, R406). -/
theorem shiftArith_eq (v : Word) {c : Word} {k : Nat} (hk : k = (c.extractLsb' 0 5).toNat) :
    shiftArith v c = if c.msb = false then v <<< k
      else if k = 0 then (if v.msb then 0xFFFFFFFF else 0) else v.sshiftRight (32 - k) := by
  rw [shiftArith, shiftCount_eq hk, ← sshiftRight_width]
  cases c.msb
  · rfl
  · by_cases hzero : k = 0 <;> simp [hzero]

theorem shiftLogical_eq (v : Word) {c : Word} {k : Nat} (hk : k = (c.extractLsb' 0 5).toNat) :
    shiftLogical v c = if c.msb = false then v <<< k else if k = 0 then 0 else v >>> (32 - k) := by
  have hwidth : v >>> 32 = 0 := BitVec.ushiftRight_eq_zero (Nat.le_refl 32)
  rw [shiftLogical, shiftCount_eq hk, ← hwidth]
  cases c.msb
  · rfl
  · by_cases hzero : k = 0 <;> simp [hzero]

/-- Settles O15: each is a value into a register; the dynamic shifts by their direction and count. -/
theorem longer_shifts : Obligations.longer_shifts := by
  unfold Obligations.longer_shifts
  refine ⟨fun n s => ⟨rfl, fun hh => State.putReg_after hh 2 n _⟩,
    fun n s => ⟨rfl, fun hh => State.putReg_after hh 2 n _⟩, fun n s => ⟨rfl, fun hh => State.putReg_after hh 2 n _⟩,
    fun n s => ⟨rfl, fun hh => State.putReg_after hh 2 n _⟩, fun n s => ⟨rfl, fun hh => State.putReg_after hh 2 n _⟩,
    fun n s => ⟨rfl, fun hh => State.putReg_after hh 2 n _⟩,
    fun m n s => ⟨rfl, fun hh k hk => ?shad⟩, fun m n s => ⟨rfl, fun hh k hk => ?shld⟩⟩
  case shad =>
    rw [← shiftArith_eq _ hk]
    exact State.putReg_after hh 2 n _
  case shld =>
    rw [← shiftLogical_eq _ hk]
    exact State.putReg_after hh 2 n _

end Sys2Proof.Machine

/-!
PROOFS of the statements of the branch instructions (O16, O17): outside a slot each is a transfer without a slot of its
own, or a delayed branch that latches its target.
-/

/-! ### Branches outside a slot -/

namespace Sys2Proof.Machine

open Sys2Proof

/-- The target of a branch with a displacement, as its rule prints it (R134). -/
theorem State.branchTarget_eq {w : Nat} (s : State) (d : BitVec w) :
    s.branchTarget d = s.pc + 4 + d.signExtend 32 * 2 :=
  congrArg (s.pc + 4 + ·) (BitVec.shiftLeft_eq_mul_twoPow (d.signExtend 32) 1)

/-- Control at an address, from outside a slot, leaves the slot as it is. -/
theorem State.goto_outsideSlot {s : State} (hs : s.slot = .none) (a : Word) : s.goto a = { s with pc := a } := by
  rw [State.goto, ← hs]

/-- A branch that does not go, and has no slot of its own, continues at the next instruction (R425, R427). -/
theorem State.done_outsideSlot {s : State} (hh : s.held = false) (hs : s.slot = .none) (len : Word) :
    s.done len = .next { s with pc := s.pc + len } := by
  rw [State.done_goto hh hs, State.goto_outsideSlot hs]

/-- A transfer without a slot changes PC only (R10). -/
theorem State.jump_outsideSlot {s : State} (hh : s.held = false) (hs : s.slot = .none) (a : Word) :
    s.jump a = { s with pc := a } := by
  rw [State.jump_quiet hh, State.goto_outsideSlot hs]

/-- JSR/N goes to the address in an entry of its table that may be read (R436). -/
theorem execJsrNTbr_ok {s : State} {d : BitVec 8} (hc : s.canAccess 4 (s.eaTbr d) = true) :
    execJsrNTbr d s = s.branch (.next ((s.link (s.pc + 2)).jump (s.peek32 (s.eaTbr d)))) := by
  rw [execJsrNTbr, State.read32_ok hc]

section Branch

variable {s : State} (hs : s.slot = .none)
include hs

/-- Outside a slot a branch is what its rule gives (R420). -/
theorem State.branch_outsideSlot (r : Res) : s.branch r = r := State.outsideSlot_none hs 2 r

/-- A branch on T answers one of two states. -/
theorem State.branch_ite {r r' : Res} {t u : State} (c : Bool) (hr : r = .next t) (hr' : r' = .next u) :
    s.branch (if c then r else r') = .next (if c then t else u) := by
  rw [State.branch_outsideSlot hs, hr, hr', apply_ite Host.Outcome.next]

/-- A delayed branch latches its target; what it writes besides, it writes before its slot (R421). -/
theorem State.branch_delayTo {a b : Word} (hab : a = b) (t : State) :
    s.branch (.next (t.delayTo a)) = .next { t with pc := t.pc + 2, slot := .taken b } := by
  rw [State.branch_outsideSlot hs, State.delayTo, hab]

/-- A branch without a slot of its own goes at once; what it writes besides stays. -/
theorem State.branch_jump {t : State} (hheld : t.held = false) (hslot : t.slot = .none) (a : Word) :
    s.branch (.next (t.jump a)) = .next { t with pc := a } := by
  rw [State.branch_outsideSlot hs, State.jump_outsideSlot hheld hslot]

end Branch

/-- Settles O16: a conditional branch by its two outcomes, the others by their target. -/
theorem branches_without_link : Obligations.branches_without_link := by
  unfold Obligations.branches_without_link
  refine ⟨fun d s => ⟨rfl, fun hh hs => State.branch_ite hs s.t (State.done_outsideSlot hh hs 2) ?bfTaken⟩,
    fun d s => ⟨rfl, fun _ hs => State.branch_ite hs s.t rfl ?bfSTaken⟩,
    fun d s => ⟨rfl, fun hh hs => State.branch_ite hs s.t ?btTaken (State.done_outsideSlot hh hs 2)⟩,
    fun d s => ⟨rfl, fun _ hs => State.branch_ite hs s.t ?btSTaken rfl⟩,
    fun d s => ⟨rfl, fun _ hs => State.branch_delayTo hs (s.branchTarget_eq d) s⟩,
    fun m s => ⟨rfl, fun _ hs => State.branch_delayTo hs rfl s⟩,
    fun m s => ⟨rfl, fun _ hs => State.branch_delayTo hs rfl s⟩⟩
  case bfTaken | btTaken => rw [State.jump_outsideSlot hh hs, State.branchTarget_eq]
  case bfSTaken | btSTaken => rw [State.delayTo, State.branchTarget_eq]

/-- Settles O17: the delayed calls latch their target over the state with PR written, the others go at once. -/
theorem calls_and_returns : Obligations.calls_and_returns := by
  unfold Obligations.calls_and_returns
  refine ⟨fun d s => ⟨rfl, fun _ hs => State.branch_delayTo hs (s.branchTarget_eq d) (s.link (s.pc + 4))⟩,
    fun m s => ⟨rfl, fun _ hs => State.branch_delayTo hs rfl (s.link (s.pc + 4))⟩,
    fun m s => ⟨rfl, fun _ hs => State.branch_delayTo hs rfl (s.link (s.pc + 4))⟩,
    fun s => ⟨rfl, fun _ hs => State.branch_delayTo hs rfl s⟩,
    fun d s => ⟨rfl, fun hh hs hc => ?jsrNTbr⟩,
    fun m s => ⟨rfl, fun hh hs => State.branch_jump hs (t := s.link (s.pc + 2)) hh hs (s.reg m)⟩,
    fun s => ⟨rfl, fun hh hs => State.branch_jump hs hh hs s.pr⟩,
    fun m s => ⟨rfl, fun hh hs => State.branch_jump hs (t := s.setReg 0 (s.reg m)) hh hs s.pr⟩⟩
  case jsrNTbr =>
    rw [← dispScaled_longword] at hc ⊢
    exact (execJsrNTbr_ok hc).trans (State.branch_jump hs (t := s.link (s.pc + 2)) hh hs _)

end Sys2Proof.Machine

/-!
PROOFS of the statements of the system control instructions (O20 to O23), and of the return from an exception entry
(O53): the entry as two pushes, RTE as two pops.
-/

/-! ### An exception entry whose accesses are allowed -/

namespace Sys2Proof.Machine

open Sys2Proof

/-- One push of an entry, allowed, in plain memory. -/
theorem State.entryPush_pushed_ok {s : State} (v : Word) (hc : s.canAccess 4 (s.sp - 4) = true)
    (hm : Memory.wf s.mem) (hp : s.plain (s.sp - 4) 4) :
    Pushed s (s.entryPush v) [v] ∧ Memory.wf (s.entryPush v).mem := by
  obtain ⟨m, hpush, hwf, hread, hkeep⟩ := State.poke32_plain (s := s.setReg 15 (s.sp - 4)) v hp hm
  rw [State.entryPush_ok v hc, hpush]
  refine ⟨⟨⟨m, rfl⟩, fun k w hk => ?_, hkeep⟩, hwf⟩
  cases k with
  | zero =>
    have hv : v = w := by simpa using hk
    exact hv ▸ hread
  | succ k => simp at hk

/-- Both pushes of an entry without a bank save (R716). -/
theorem State.entryPush_twice_pushed {s : State} (v w : Word) (hfirst : s.canAccess 4 (s.sp - 4) = true)
    (hsecond : s.canAccess 4 (s.sp - 8) = true) (hm : Memory.wf s.mem) (hp : s.plain (s.sp - 8) 8) :
    Pushed s ((s.entryPush v).entryPush w) [v, w] := by
  have hdown : s.sp - 8 + 4 = s.sp - 4 := by bv_omega
  have hnext : s.sp - 4 - 4 = s.sp - 8 := by bv_omega
  obtain ⟨hlow, hhigh⟩ := State.plain_halves hp
  rw [hdown] at hhigh
  obtain ⟨hpushed, hwf⟩ := State.entryPush_pushed_ok v hfirst hm hhigh
  have hsp : (s.entryPush v).sp - 4 = s.sp - 8 := by rw [State.sp_entryPush_ok v hfirst, hnext]
  refine hpushed.cons (State.entryPush_pushed_ok w ?access hwf ?plain).1 (by simp)
  case access => rw [State.canAccess_congr hpushed.cfg, hsp, hsecond]
  case plain =>
    rw [hsp, State.plain, hpushed.cfg]
    exact hlow

/-- `t` is `s` right after the entry of `e`: SR and the saved pc lie below the old R15, control is at the handler and
outside a slot, IMASK is written where the entry gives a level, and nothing else differs (R716, R718). -/
structure Entered (s t : State) (e : Exc) (saved : Word) (level : Option (BitVec 4)) : Prop where
  only : ∃ m, t = { s.setReg 15 (s.reg 15 - 8) with
    mem := m, sr := (level.elim s s.setImask).sr, pc := s.peek32 (s.vbr + e.vector <<< 2), slot := .none, power := .run,
    held := if e = .cpuAddressError then false else s.held }
  stackedSr : t.peek32 (s.reg 15 - 4) = s.sr
  stackedPc : t.peek32 (s.reg 15 - 8) = saved
  keep : SameMemoryOutside s t (s.reg 15 - 8) 8

/-- An entry that raises no error of its own is the sequence of R716 once; what was held stays so, unless this entry
serves it. -/
theorem State.enter_once {s : State} {e : Exc} {saved : Word} {level : Option (BitVec 4)} {bank : BankSave}
    (h : (State.enterOnce { s with held := false } e saved level bank).held = false) :
    s.enter e saved level bank = { State.enterOnce { s with held := false } e saved level bank with
      held := if e = .cpuAddressError then false else s.held } := by
  by_cases he : e = .cpuAddressError
  · simp only [State.enter, if_pos he]
  · rw [State.enter_quiet he h, if_neg he]

theorem State.enterOnce_pushed {s : State} {e : Exc} {saved : Word} (level : Option (BitVec 4)) {m : Memory}
    (hv : s.canAccess 4 (s.vbr + e.vector <<< 2) = true)
    (hpush : (s.entryPush s.sr).entryPush saved = { s.setReg 15 (s.reg 15 - 8) with mem := m }) :
    s.enterOnce e saved level .nowhere = { s.setReg 15 (s.reg 15 - 8) with
      mem := m, sr := (level.elim s s.setImask).sr, pc := s.peek32 (s.vbr + e.vector <<< 2), slot := .none,
      power := .run } := by
  simp only [State.enterOnce, State.load32_ok hv, State.saveBank, hpush]
  cases level <;> rfl

theorem State.enter_entered {s : State} {e : Exc} (h : s.entryAllowed e) (hm : Memory.wf s.mem)
    (hp : s.plain (s.reg 15 - 8) 8) (saved : Word) (level : Option (BitVec 4)) :
    Entered s (s.enter e saved level .nowhere) e saved level := by
  obtain ⟨hvector, hfirst, hsecond⟩ := h
  have hpushed := State.entryPush_twice_pushed (s := { s with held := false }) s.sr saved hfirst hsecond hm hp
  obtain ⟨m, hpush⟩ := hpushed.only
  have honce := State.enterOnce_pushed (s := { s with held := false }) level hvector hpush
  have henter : s.enter e saved level .nowhere = _ := State.enter_once (by rw [honce]; rfl)
  rw [honce] at henter
  have hpeek (a : Word) : (s.enter e saved level .nowhere).peek a =
      State.peek ((State.entryPush { s with held := false } s.sr).entryPush saved) a := by rw [henter, hpush]; rfl
  have hread (k : Nat) (v : Word) (hk : [s.sr, saved][k]? = some v) (a : Word)
      (ha : a = s.reg 15 - BitVec.ofNat 32 (4 * (k + 1))) : (s.enter e saved level .nowhere).peek32 a = v := by
    rw [State.peek32_congr fun b _ => hpeek b, ha]
    exact hpushed.read k v hk
  refine ⟨⟨m, ?only⟩, hread 0 _ rfl _ rfl, hread 1 _ rfl _ rfl, fun a ha => ?keep⟩
  case only =>
    rw [henter]
    cases level <;> rfl
  case keep =>
    rw [hpeek]
    exact hpushed.keep a ((outside_range_iff a (s.reg 15 - 8) 8).mp ha)

/-! ### RTE -/

/-- RTE from a stack that may be read: PC and SR popped, the slot instruction next (R470). -/
theorem State.returnFromException_ok {s : State} (hpc : s.canAccess 4 (s.reg 15) = true)
    (hsr : s.canAccess 4 (s.reg 15 + 4) = true) : s.returnFromException =
      { s.setReg 15 (s.reg 15 + 8) with
        sr := s.peek32 (s.reg 15 + 4) &&& srMask, pc := s.pc + 2, slot := .taken (s.peek32 (s.reg 15)) } := by
  have hpop : s.pop = (s.peek32 (s.reg 15), s.setReg 15 (s.reg 15 + 4)) := by
    simp only [State.pop, State.sp, State.load32_ok hpc]
  have hsp : (s.setReg 15 (s.reg 15 + 4)).reg 15 = s.reg 15 + 4 := State.reg_setReg_same s 15 _
  have hpop' : (s.setReg 15 (s.reg 15 + 4)).pop = (s.peek32 (s.reg 15 + 4), s.setReg 15 (s.reg 15 + 8)) := by
    have hload : (s.setReg 15 (s.reg 15 + 4)).load32 (s.reg 15 + 4) = _ := State.load32_ok hsr
    have hup : s.reg 15 + 4 + 4 = s.reg 15 + 8 := by bv_omega
    simp only [State.pop, State.sp, hsp, hload, State.setReg_setReg_same, hup]
    rfl
  simp only [State.returnFromException, hpop, hpop']
  rfl

theorem exec_rte_ok {s : State} (hs : s.slot = .none) (hpc : s.canAccess 4 (s.reg 15) = true)
    (hsr : s.canAccess 4 (s.reg 15 + 4) = true) : exec .rte s = .next { s.setReg 15 (s.reg 15 + 8) with
      sr := s.peek32 (s.reg 15 + 4) &&& srMask, pc := s.pc + 2, slot := .taken (s.peek32 (s.reg 15)) } := by
  rw [← State.returnFromException_ok hpc hsr]
  exact State.outsideSlot_none hs 2 _

/-- Settles O23: the trap is an entry through its vector with no mask level, RTE two pops. -/
theorem trapa_and_rte : Obligations.trapa_and_rte := by
  unfold Obligations.trapa_and_rte
  refine ⟨fun i s => ⟨rfl, fun hs hallowed hm hp => ?trapa⟩, fun s => ⟨rfl, fun hs hpc hsr => exec_rte_ok hs hpc hsr⟩⟩
  have hrun : exec (.trapa i) s = .next (s.raise (.trap i) (s.pc + 2)) := State.outsideSlot_none hs 2 _
  refine ⟨_, hrun, ?_⟩
  obtain ⟨⟨m, honly⟩, hstackedSr, hstackedPc, hkeep⟩ := State.enter_entered hallowed hm hp (s.pc + 2) none
  have hvector : (Exc.trap i).vector <<< 2 = i.setWidth 32 * 4 := dispScaled_longword i
  rw [hvector] at honly
  rw [State.raise]
  generalize s.enter (.trap i) (s.pc + 2) none .nowhere = t at *
  subst honly
  exact ⟨rfl, State.reg_setReg_same s 15 _, hstackedSr, hstackedPc, rfl, rfl, rfl, hkeep,
    fun k hk => State.reg_setReg_other s 15 k _ (by simpa using hk), fun _ _ => rfl, fun x _ => by cases x <;> rfl,
    ⟨rfl, rfl⟩, rfl, rfl, rfl, rfl⟩

/-! ### RTE after an entry -/

/-- A code unit at the program counter that announces no 32-bit instruction (R124). -/
theorem State.longAtPc_of_unit {s : State} {b c : Byte} (h : s.unitAt s.pc = [b, c]) :
    s.longAtPc = isLong (b ++ c) := by
  rw [State.unitAt, List.cons.injEq, List.cons.injEq] at h
  obtain ⟨hb, hc, -⟩ := h
  rw [State.longAtPc, hb, hc]

theorem decode_rte (md : FpMode) (rest : List Byte) : decode md ([0x00, 0x2B] ++ rest) = .instruction .rte rest := rfl
theorem decode_nop (md : FpMode) (rest : List Byte) : decode md ([0x00, 0x09] ++ rest) = .instruction .nop rest := rfl

theorem State.fetch_rte {s : State} (hpc : s.canFetch s.pc = true) (hunit : s.unitAt s.pc = [0x00, 0x2B]) :
    s.fetch = .instruction .rte := by
  have hshort : s.longAtPc = false := State.longAtPc_of_unit hunit
  exact State.fetch_instruction hpc (by simp [hshort]) (by rw [hunit, decode_rte])
theorem State.fetch_nop {s : State} (hpc : s.canFetch s.pc = true) (hunit : s.unitAt s.pc = [0x00, 0x09]) :
    s.fetch = .instruction .nop := by
  have hshort : s.longAtPc = false := State.longAtPc_of_unit hunit
  exact State.fetch_instruction hpc (by simp [hshort]) (by rw [hunit, decode_nop])

/-- Bits that lie in a mask pass through it. -/
theorem and_mask_of_outside {a k : Word} (h : a &&& ~~~k = 0) : a &&& k = a := by
  rw [outside_iff] at h
  ext i hi
  have hbit := h i
  rw [BitVec.getLsbD_eq_getElem hi, BitVec.getLsbD_eq_getElem hi] at hbit
  cases ha : a[i] <;> simp_all

section QuietStep

variable {s : State} (ho : s.outside = []) (hi : s.inputs = []) (hh : s.held = false) (hp : s.power = .run)
include ho hi hh hp

/-- With nothing held, signalled or done from outside, a step of a running machine is its instruction (R703). -/
theorem step_of_fetch {i : Instr} (hfetch : s.fetch = .instruction i) : step s = exec i s := by
  rw [step_of_event_execute (State.resetSignal_nil ho) (State.environment_none ho).symm (State.event_run hi hh hp),
    State.runInstruction_of_fetch hfetch]

/-- A NOP in the slot of a taken branch lets the branch complete (R421, R454). -/
theorem step_nop_taken {target : Word} (hpc : s.canFetch s.pc = true) (hnop : s.unitAt s.pc = [0x00, 0x09])
    (hs : s.slot = .taken target) : step s = .next { s with pc := target, slot := .none } := by
  have hrun : exec .nop s = .next (s.after 2) := State.done_after hh 2
  rw [step_of_fetch ho hi hh hp (State.fetch_nop hpc hnop), hrun, State.after, hs]

/-- RTE and a NOP in its slot: two steps that pop PC and SR (R470, R768). -/
theorem step_rte_nop (hs : s.slot = .none) (hpc : s.canFetch s.pc = true) (hslot : s.canFetch (s.pc + 2) = true)
    (hrte : s.unitAt s.pc = [0x00, 0x2B]) (hnop : s.unitAt (s.pc + 2) = [0x00, 0x09])
    (hlow : s.canAccess 4 (s.reg 15) = true) (hhigh : s.canAccess 4 (s.reg 15 + 4) = true) :
    ∃ v, step s = .next v ∧ step v = .next { s.setReg 15 (s.reg 15 + 8) with
      sr := s.peek32 (s.reg 15 + 4) &&& srMask, pc := s.peek32 (s.reg 15), slot := .none } := by
  refine ⟨_, (step_of_fetch ho hi hh hp (State.fetch_rte hpc hrte)).trans (exec_rte_ok hs hlow hhigh), ?_⟩
  refine step_nop_taken ?_ ?_ ?_ ?_ hslot hnop rfl
  exacts [ho, hi, hh, hp]

end QuietStep

/-- Settles O53: what the entry stacked is what RTE pops, and SR has no bit that its mask drops. -/
theorem rte_undoes_entry : Obligations.rte_undoes_entry := by
  unfold Obligations.rte_undoes_entry
  intro s e saved level t u hinv hallowed hplain ht hsp hcfg hpcStacked hsrStacked hs hh hp hi ho hpc hslot hrte hnop
  obtain ⟨⟨m, honly⟩, hstackedSr, hstackedPc, -⟩ :=
    ht ▸ State.enter_entered hallowed hinv.memory hplain saved level
  have htop : t.reg 15 = s.reg 15 - 8 := by rw [honly]; exact State.reg_setReg_same s 15 _
  have hup : s.reg 15 - 8 + 4 = s.reg 15 - 4 := by bv_omega
  have hback : s.reg 15 - 8 + 8 = s.reg 15 := by bv_omega
  have hsame : u.cfg = s.cfg := by rw [hcfg, honly]; rfl
  rw [htop] at hsp hpcStacked hsrStacked
  rw [hup, hstackedSr] at hsrStacked
  rw [hstackedPc] at hpcStacked
  obtain ⟨-, hhigh, hlow⟩ := hallowed
  rw [← State.canAccess_congr hsame] at hhigh hlow
  obtain ⟨v, hfirst, hsecond⟩ := step_rte_nop ho hi hh hp hs hpc hslot hrte hnop (by rw [hsp, hlow])
    (by rw [hsp, hup, hhigh])
  rw [hsp, hup, hback, hsrStacked, hpcStacked, and_mask_of_outside hinv.status] at hsecond
  exact ⟨v, _, hfirst, hsecond, rfl, rfl, State.reg_setReg_same u 15 _, rfl,
    fun k hk => State.reg_setReg_other u 15 k _ (by simpa using hk), fun _ _ => rfl, fun x _ => by cases x <;> rfl,
    ⟨rfl, rfl⟩, fun _ => rfl⟩

/-! ### Control and system registers -/

section Registers

variable {s : State} (hh : s.held = false)
include hh

/-- A control register loaded from an address that may be read ends the instruction (R459, R465). -/
theorem State.loadControl_after {m : GReg} (hc : s.canAccess 4 (s.reg m) = true) {put : State → Word → State}
    (hput : ∀ v, (put s v).held = s.held) :
    (s.loadControl m put).done 2 = .next (((put s (s.peek32 (s.reg m))).setReg m (s.reg m + 4)).after 2) :=
  State.done_stored hh (State.loadControl_ok hc put) (hput _) 2

/-- The same for a store to an address that may be written (R477, R488). -/
theorem State.storeControl_after {n : GReg} (hc : s.canAccess 4 (s.reg n - 4) = true) (v : Word) :
    (s.storeControl n v).done 2 = .next (((s.poke32 (s.reg n - 4) v).setReg n (s.reg n - 4)).after 2) :=
  State.done_stored_moved hh (State.store32_ok hc v) (State.poke32_held ..) n _

end Registers

/-- Settles O20: each writes T, MAC or one control register, or nothing. -/
theorem register_loads : Obligations.register_loads := by
  unfold Obligations.register_loads
  exact ⟨fun s => ⟨rfl, fun hh => State.done_after (s := s.setT false) hh 2⟩,
    fun s => ⟨rfl, fun hh => State.done_after (s := s.setT true) hh 2⟩,
    fun s => ⟨rfl, fun hh => State.done_after (s := s.setMac 0) hh 2⟩,
    fun s => ⟨rfl, fun hh => State.done_after hh 2⟩,
    fun m s => ⟨rfl, fun hh => State.done_after (s := s.setSr (s.reg m)) hh 2⟩,
    fun m s => ⟨rfl, fun hh => State.done_after (s := s.setGbr (s.reg m)) hh 2⟩,
    fun m s => ⟨rfl, fun hh => State.done_after (s := s.setVbr (s.reg m)) hh 2⟩,
    fun m s => ⟨rfl, fun hh => State.done_after (s := s.setTbr (s.reg m)) hh 2⟩,
    fun m s => ⟨rfl, fun hh => State.done_after (s := s.setMach (s.reg m)) hh 2⟩,
    fun m s => ⟨rfl, fun hh => State.done_after (s := s.setMacl (s.reg m)) hh 2⟩,
    fun m s => ⟨rfl, fun hh => State.done_after (s := s.setPr (s.reg m)) hh 2⟩⟩

/-- Settles O21: a load writes its register and moves Rm, a store writes memory and moves Rn. -/
theorem control_register_memory_forms : Obligations.control_register_memory_forms := by
  unfold Obligations.control_register_memory_forms
  exact ⟨fun m s => ⟨rfl, fun hh hc => State.loadControl_after (put := State.setSr) hh hc fun _ => rfl⟩,
    fun m s => ⟨rfl, fun hh hc => State.loadControl_after (put := State.setGbr) hh hc fun _ => rfl⟩,
    fun m s => ⟨rfl, fun hh hc => State.loadControl_after (put := State.setVbr) hh hc fun _ => rfl⟩,
    fun m s => ⟨rfl, fun hh hc => State.loadControl_after (put := State.setMach) hh hc fun _ => rfl⟩,
    fun m s => ⟨rfl, fun hh hc => State.loadControl_after (put := State.setMacl) hh hc fun _ => rfl⟩,
    fun m s => ⟨rfl, fun hh hc => State.loadControl_after (put := State.setPr) hh hc fun _ => rfl⟩,
    fun n s => ⟨rfl, fun hh hc => State.storeControl_after hh hc s.sr⟩,
    fun n s => ⟨rfl, fun hh hc => State.storeControl_after hh hc s.gbr⟩,
    fun n s => ⟨rfl, fun hh hc => State.storeControl_after hh hc s.vbr⟩,
    fun n s => ⟨rfl, fun hh hc => State.storeControl_after hh hc s.mach⟩,
    fun n s => ⟨rfl, fun hh hc => State.storeControl_after hh hc s.macl⟩,
    fun n s => ⟨rfl, fun hh hc => State.storeControl_after hh hc s.pr⟩⟩

/-- Settles O22: each is a value into a register; SLEEP writes the power state alone. -/
theorem register_stores_and_sleep : Obligations.register_stores_and_sleep := by
  unfold Obligations.register_stores_and_sleep
  exact ⟨fun n s => ⟨rfl, fun hh => State.putReg_after hh 2 n s.sr⟩,
    fun n s => ⟨rfl, fun hh => State.putReg_after hh 2 n s.gbr⟩,
    fun n s => ⟨rfl, fun hh => State.putReg_after hh 2 n s.vbr⟩,
    fun n s => ⟨rfl, fun hh => State.putReg_after hh 2 n s.tbr⟩,
    fun n s => ⟨rfl, fun hh => State.putReg_after hh 2 n s.mach⟩,
    fun n s => ⟨rfl, fun hh => State.putReg_after hh 2 n s.macl⟩,
    fun n s => ⟨rfl, fun hh => State.putReg_after hh 2 n s.pr⟩,
    fun s => ⟨rfl, fun hh => State.done_after (s := { s with power := .lowPower }) hh 2⟩⟩

end Sys2Proof.Machine

/-!
PROOFS of the statements of the floating-point family: operand classes (O36), the computed path (O35), the instructions'
tables (O30 to O34), completion (O29) and frame (O41).
-/

/-! ### Patterns and their fields -/

namespace Sys2Proof.Machine

open Sys2Proof

/-- The highest bit of a number that fits `i + 1` bits. -/
theorem testBit_highest {i x : Nat} (h : x < 2 ^ (i + 1)) : x.testBit i = decide (2 ^ i ≤ x) := by
  rw [Nat.testBit_eq_decide_div_mod_eq]
  by_cases hx : 2 ^ i ≤ x
  · have hquot : x / 2 ^ i = 1 := Nat.div_eq_of_lt_le (by omega) (by rw [pow_succ] at h; omega)
    simp [hquot, hx]
  · simp [Nat.div_eq_of_lt (Nat.not_le.mp hx), hx]

/-- The sign bit of a pattern that fits its format is its highest. -/
theorem Fmt.isNeg_eq_decide {f : Fmt} {x : Nat} (hx : x < 2 * f.signWeight) :
    f.isNeg x = decide (f.signWeight ≤ x) := by
  have hpow : 2 * f.signWeight = 2 ^ (f.expBits + f.fracBits + 1) := by rw [Fmt.signWeight, pow_succ']
  exact testBit_highest (hpow ▸ hx)

/-- The pattern of a sign, an exponent field and a fraction field (R501). -/
def Fmt.pattern (f : Fmt) (neg : Bool) (e frac : Nat) : Nat := f.sign neg + e * 2 ^ f.fracBits + frac

theorem Fmt.sign_eq_mul (f : Fmt) (neg : Bool) :
    f.sign neg = (if neg then 2 ^ f.expBits else 0) * 2 ^ f.fracBits := by
  cases neg <;> simp [Fmt.sign, Fmt.signWeight, pow_add]

section Fields

variable {f : Fmt} {neg : Bool} {e frac : Nat} (he : e < 2 ^ f.expBits) (hfrac : frac < 2 ^ f.fracBits)

include hfrac in
theorem Fmt.pattern_frac : f.pattern neg e frac % 2 ^ f.fracBits = frac := by
  rw [Fmt.pattern, Fmt.sign_eq_mul, ← add_mul, Nat.mul_add_mod_self_right, Nat.mod_eq_of_lt hfrac]

include he hfrac

theorem Fmt.pattern_exp : f.pattern neg e frac / 2 ^ f.fracBits % 2 ^ f.expBits = e := by
  have hpos : 0 < 2 ^ f.fracBits := Nat.two_pow_pos _
  rw [Fmt.pattern, Fmt.sign_eq_mul, ← add_mul, Nat.add_comm, Nat.add_mul_div_right _ _ hpos, Nat.div_eq_of_lt hfrac]
  cases neg <;> simp [Nat.mod_eq_of_lt he]

/-- An exponent field and a fraction field stay below the sign bit. -/
theorem Fmt.fields_lt_signWeight : e * 2 ^ f.fracBits + frac < f.signWeight := by
  have hfield : (e + 1) * 2 ^ f.fracBits ≤ 2 ^ f.expBits * 2 ^ f.fracBits := Nat.mul_le_mul_right _ he
  rw [Fmt.signWeight, pow_add]
  rw [add_mul, one_mul] at hfield
  omega

theorem Fmt.pattern_lt : f.pattern neg e frac < 2 * f.signWeight := by
  have hfields := Fmt.fields_lt_signWeight he hfrac
  cases neg <;> simp [Fmt.pattern, Fmt.sign] <;> omega

theorem Fmt.pattern_isNeg : f.isNeg (f.pattern neg e frac) = neg := by
  have hfields := Fmt.fields_lt_signWeight he hfrac
  rw [Fmt.isNeg_eq_decide (Fmt.pattern_lt he hfrac)]
  cases neg <;> simp [Fmt.pattern, Fmt.sign] <;> omega

end Fields

/-! ### Classes by the fields (R502) -/

section Classes

variable {f : Fmt} {dn : Bool} {x : Nat}

theorem classify_of_zero (hf : 0 < f.expBits) (he : x / 2 ^ f.fracBits % 2 ^ f.expBits = 0)
    (hzero : x % 2 ^ f.fracBits = 0 ∨ dn = true) : classify f dn x = .zero (f.isNeg x) := by
  have htop : 0 ≠ 2 ^ f.expBits - 1 := by have := Nat.one_lt_two_pow hf.ne'; omega
  simp only [classify, he, if_neg htop, if_pos hzero, if_true, Fmt.isNeg]
theorem classify_of_denorm (hf : 0 < f.expBits) (he : x / 2 ^ f.fracBits % 2 ^ f.expBits = 0)
    (hfrac : x % 2 ^ f.fracBits ≠ 0) : classify f false x = .denorm (f.isNeg x) := by
  have htop : 0 ≠ 2 ^ f.expBits - 1 := by have := Nat.one_lt_two_pow hf.ne'; omega
  simp [classify, he, if_neg htop, hfrac, Fmt.isNeg]
theorem classify_of_norm (hlow : x / 2 ^ f.fracBits % 2 ^ f.expBits ≠ 0)
    (hhigh : x / 2 ^ f.fracBits % 2 ^ f.expBits ≠ 2 ^ f.expBits - 1) :
    classify f dn x = .norm (f.isNeg x) (2 ^ f.fracBits + x % 2 ^ f.fracBits)
      (((x / 2 ^ f.fracBits % 2 ^ f.expBits : Nat) : Int) - f.bias - f.fracBits) := by
  simp only [classify, if_neg hlow, if_neg hhigh, Fmt.isNeg]
theorem classify_of_inf (he : x / 2 ^ f.fracBits % 2 ^ f.expBits = 2 ^ f.expBits - 1)
    (hfrac : x % 2 ^ f.fracBits = 0) : classify f dn x = .inf (f.isNeg x) := by
  simp only [classify, if_pos he, if_pos hfrac, Fmt.isNeg]
/-- The top bit of the fraction tells the two NaNs apart. -/
theorem classify_of_nan (he : x / 2 ^ f.fracBits % 2 ^ f.expBits = 2 ^ f.expBits - 1)
    (hfrac : x % 2 ^ f.fracBits ≠ 0) :
    classify f dn x = if (x % 2 ^ f.fracBits).testBit (f.fracBits - 1) then .snan else .qnan := by
  simp only [classify, if_pos he, if_neg hfrac]

end Classes

/-! ### Classes by the magnitude, the pattern without its sign bit -/

section Magnitude

variable {f : Fmt} {x a : Nat} (ha : a = x % f.signWeight)
include ha

theorem Fmt.expField_of_magnitude : x / 2 ^ f.fracBits % 2 ^ f.expBits = a / 2 ^ f.fracBits := by
  rw [ha, Fmt.signWeight, pow_add, Nat.mul_comm, Nat.mod_mul_right_div_self]
theorem Fmt.fracField_of_magnitude : x % 2 ^ f.fracBits = a % 2 ^ f.fracBits := by
  rw [ha, Fmt.signWeight, pow_add, Nat.mod_mul_left_mod]
theorem Fmt.magnitude_lt : a < 2 ^ f.expBits * 2 ^ f.fracBits := by
  rw [ha, ← pow_add]
  exact Nat.mod_lt _ (Nat.two_pow_pos _)

variable {dn : Bool}

theorem classify_small (hf : 0 < f.expBits) (h : a < 2 ^ f.fracBits) : classify f true x = .zero (f.isNeg x) :=
  classify_of_zero hf ((Fmt.expField_of_magnitude ha).trans (Nat.div_eq_of_lt h)) (.inr rfl)
theorem classify_nothing (hf : 0 < f.expBits) (h : a = 0) : classify f false x = .zero (f.isNeg x) := by
  subst h
  exact classify_of_zero hf ((Fmt.expField_of_magnitude ha).trans (Nat.zero_div _))
    (.inl ((Fmt.fracField_of_magnitude ha).trans (Nat.zero_mod _)))
theorem classify_small_denorm (hf : 0 < f.expBits) (h0 : a ≠ 0) (h : a < 2 ^ f.fracBits) :
    classify f false x = .denorm (f.isNeg x) := by
  refine classify_of_denorm hf ((Fmt.expField_of_magnitude ha).trans (Nat.div_eq_of_lt h)) ?_
  rwa [Fmt.fracField_of_magnitude ha, Nat.mod_eq_of_lt h]
theorem classify_middle (hlow : 2 ^ f.fracBits ≤ a) (hhigh : a < (2 ^ f.expBits - 1) * 2 ^ f.fracBits) :
    classify f dn x = .norm (f.isNeg x) (2 ^ f.fracBits + x % 2 ^ f.fracBits)
      (((x / 2 ^ f.fracBits % 2 ^ f.expBits : Nat) : Int) - f.bias - f.fracBits) := by
  have hfield := Fmt.expField_of_magnitude ha
  refine classify_of_norm ?_ ?_ <;> rw [hfield]
  · exact (Nat.div_pos hlow (Nat.two_pow_pos _)).ne'
  · exact ((Nat.div_lt_iff_lt_mul (Nat.two_pow_pos _)).mpr hhigh).ne

/-- From the infinity on the exponent field is all ones, and the fraction is what is above. -/
theorem Fmt.fields_of_top (h : (2 ^ f.expBits - 1) * 2 ^ f.fracBits ≤ a) :
    x / 2 ^ f.fracBits % 2 ^ f.expBits = 2 ^ f.expBits - 1 ∧
      x % 2 ^ f.fracBits = a - (2 ^ f.expBits - 1) * 2 ^ f.fracBits := by
  have hlt := Fmt.magnitude_lt ha
  have hquot : a / 2 ^ f.fracBits = 2 ^ f.expBits - 1 := by
    refine Nat.div_eq_of_lt_le h ?_
    rwa [Nat.sub_add_cancel Nat.one_le_two_pow]
  have hdiv := Nat.div_add_mod' a (2 ^ f.fracBits)
  rw [hquot] at hdiv
  rw [Fmt.expField_of_magnitude ha, Fmt.fracField_of_magnitude ha, hquot]
  exact ⟨rfl, by omega⟩

theorem classify_top (h : a = (2 ^ f.expBits - 1) * 2 ^ f.fracBits) : classify f dn x = .inf (f.isNeg x) := by
  obtain ⟨hexp, hfrac⟩ := Fmt.fields_of_top ha h.ge
  exact classify_of_inf hexp (hfrac.trans (by omega))
/-- Above the infinity stand the NaNs, the signalling ones from half the fraction's range on. -/
theorem classify_above (hf : 0 < f.fracBits) (h : (2 ^ f.expBits - 1) * 2 ^ f.fracBits < a) : classify f dn x =
    if (2 ^ f.expBits - 1) * 2 ^ f.fracBits + 2 ^ (f.fracBits - 1) ≤ a then .snan else .qnan := by
  obtain ⟨hexp, hfrac⟩ := Fmt.fields_of_top ha h.le
  obtain ⟨w, hw⟩ : ∃ w, f.fracBits = w + 1 := ⟨f.fracBits - 1, by omega⟩
  have hlt : x % 2 ^ f.fracBits < 2 ^ (w + 1) := hw ▸ Nat.mod_lt x (Nat.two_pow_pos _)
  have hw' : f.fracBits - 1 = w := by omega
  rw [classify_of_nan hexp (by omega), hw', testBit_highest hlt, hfrac]
  simp only [decide_eq_true_eq]
  exact if_congr (by omega) rfl rfl

/-- The table of classes, in any format (R502). -/
theorem classify_by_magnitude (hx : x < 2 * f.signWeight) (hexp : 0 < f.expBits) (hfrac : 0 < f.fracBits) {k : Int}
    (hk : (f.bias : Int) + f.fracBits = k) :
    (a < 2 ^ f.fracBits → classify f true x = .zero (decide (f.signWeight ≤ x))) ∧
    (a = 0 → classify f false x = .zero (decide (f.signWeight ≤ x))) ∧
    (a ≠ 0 → a < 2 ^ f.fracBits → classify f false x = .denorm (decide (f.signWeight ≤ x))) ∧
    (∀ dn : Bool, (2 ^ f.fracBits ≤ a → a < (2 ^ f.expBits - 1) * 2 ^ f.fracBits → classify f dn x =
        .norm (decide (f.signWeight ≤ x)) (2 ^ f.fracBits + x % 2 ^ f.fracBits)
          (((x / 2 ^ f.fracBits % 2 ^ f.expBits : Nat) : Int) - k)) ∧
      (a = (2 ^ f.expBits - 1) * 2 ^ f.fracBits → classify f dn x = .inf (decide (f.signWeight ≤ x))) ∧
      ((2 ^ f.expBits - 1) * 2 ^ f.fracBits < a →
        a < (2 ^ f.expBits - 1) * 2 ^ f.fracBits + 2 ^ (f.fracBits - 1) → classify f dn x = .qnan) ∧
      ((2 ^ f.expBits - 1) * 2 ^ f.fracBits + 2 ^ (f.fracBits - 1) ≤ a → classify f dn x = .snan)) := by
  rw [← Fmt.isNeg_eq_decide hx, ← hk]
  refine ⟨classify_small ha hexp, classify_nothing ha hexp, classify_small_denorm ha hexp,
    fun dn => ⟨fun hlow hhigh => ?norm, classify_top ha, fun hlow hhigh => ?qnan, fun hlow => ?snan⟩⟩
  case norm =>
    rw [← sub_sub]
    exact classify_middle ha hlow hhigh
  case qnan => exact (classify_above ha hfrac hlow).trans (if_neg (Nat.not_le.mpr hhigh))
  case snan =>
    have hhalf : 0 < 2 ^ (f.fracBits - 1) := Nat.two_pow_pos _
    exact (classify_above ha hfrac (by omega)).trans (if_pos hlow)

end Magnitude

/-- Settles O36: the bounds of the classes are those of the magnitude in each format. -/
theorem fp_operand_classes : Obligations.fp_operand_classes := by
  unfold Obligations.fp_operand_classes
  exact ⟨fun x a hx ha => classify_by_magnitude (f := .single) ha hx (by decide) (by decide) rfl,
    fun x a hx ha => classify_by_magnitude (f := .double) ha hx (by decide) (by decide) rfl, by decide,
    fun f env neg => ⟨rfl, rfl⟩⟩

end Sys2Proof.Machine

/-! ### Magnitudes and their binary exponents -/

namespace Sys2Proof.Machine

open Sys2Proof

section Powers

variable {K : Type*} [Field K] [LinearOrder K] [IsStrictOrderedRing K]

/-- A power of two as a whole multiple of a lower one. -/
theorem two_zpow_eq_mul {a b : Int} (h : b ≤ a) : (2 : K) ^ a = ((2 ^ (a - b).toNat : Nat) : K) * 2 ^ b := by
  rw [Nat.cast_pow, Nat.cast_ofNat, ← zpow_natCast, Int.toNat_of_nonneg (by omega), ← zpow_add₀ two_ne_zero,
    sub_add_cancel]

theorem two_zpow_pos (a : Int) : (0 : K) < 2 ^ a := zpow_pos two_pos a

/-- The binary logarithm bounds a natural number. -/
theorem two_pow_log2_le {n : Nat} (hn : n ≠ 0) : (2 : K) ^ Nat.log2 n ≤ n := by
  exact_mod_cast Nat.log2_self_le hn
theorem succ_le_two_pow_log2 (n : Nat) : (n : K) + 1 ≤ 2 ^ (Nat.log2 n + 1) := by
  exact_mod_cast (Nat.lt_log2_self : n < 2 ^ (n.log2 + 1))

/-- A scaled magnitude lies in the binade of its binary logarithm, with what is below its last bit. -/
theorem binade_of_scaled {n : Nat} (hn : n ≠ 0) (k : Int) {t r : K} (h0 : 0 ≤ t) (h1 : t < 1)
    (hr : r = (n + t) * 2 ^ k) : (2 : K) ^ (k + Nat.log2 n) ≤ r ∧ r < 2 ^ (k + Nat.log2 n + 1) := by
  have hk := two_zpow_pos (K := K) k
  have hlow := two_pow_log2_le (K := K) hn
  have hhigh := succ_le_two_pow_log2 (K := K) n
  have hlowPow : (2 : K) ^ (k + Nat.log2 n) = 2 ^ Nat.log2 n * 2 ^ k := by
    rw [add_comm, zpow_add₀ two_ne_zero, zpow_natCast]
  have hhighPow : (2 : K) ^ (k + Nat.log2 n + 1) = 2 ^ (Nat.log2 n + 1) * 2 ^ k := by
    rw [add_assoc, add_comm, zpow_add₀ two_ne_zero]
    norm_cast
  rw [hr, hlowPow, hhighPow]
  exact ⟨mul_le_mul_of_nonneg_right (by linarith) hk.le, mul_lt_mul_of_pos_right (by linarith) hk⟩

/-- Only one binade holds a number. -/
theorem binade_unique {a b : Int} {r : K} (ha : (2 : K) ^ a ≤ r ∧ r < 2 ^ (a + 1))
    (hb : (2 : K) ^ b ≤ r ∧ r < 2 ^ (b + 1)) : a = b := by
  have hab : a < b + 1 := (zpow_lt_zpow_iff_right₀ one_lt_two).mp (ha.1.trans_lt hb.2)
  have hba : b < a + 1 := (zpow_lt_zpow_iff_right₀ one_lt_two).mp (hb.1.trans_lt ha.2)
  omega

end Powers

/-! ### What an exact magnitude stands for (R509) -/

/-- A number stands for its magnitude and a part of its last bit, which is there when it is sticky. -/
theorem Exact.standsFor_iff {f : Fmt} {x : Exact} {r : ℝ} : x.standsFor f r ↔ ∃ δ : ℝ, 0 ≤ δ ∧ δ < 1 ∧
    r = (x.mant + δ) * 2 ^ x.exp ∧ (x.sticky = true ↔ δ ≠ 0) ∧ (x.sticky = true → f.precision ≤ Nat.log2 x.mant) := by
  have hpos := two_zpow_pos (K := ℝ) x.exp
  unfold Exact.standsFor
  cases x.sticky with
  | false =>
    simp only [Bool.false_eq_true, if_false, false_iff, not_not, false_imp_iff, and_true]
    constructor
    · intro hr
      exact ⟨0, le_rfl, one_pos, by rw [hr, add_zero], rfl⟩
    · rintro ⟨δ, -, -, hr, rfl⟩
      rw [hr, add_zero]
  | true =>
    simp only [if_true, true_iff, true_imp_iff]
    constructor
    · rintro ⟨hlow, hhigh, hbits⟩
      rw [← lt_div_iff₀ hpos] at hlow
      rw [← div_lt_iff₀ hpos] at hhigh
      exact ⟨r / 2 ^ x.exp - x.mant, by linarith, by linarith, by field_simp; ring, by linarith, hbits⟩
    · rintro ⟨δ, h0, h1, hr, hne, hbits⟩
      have hδ : 0 < δ := lt_of_le_of_ne h0 (Ne.symm hne)
      rw [hr]
      exact ⟨mul_lt_mul_of_pos_right (by linarith) hpos, mul_lt_mul_of_pos_right (by linarith) hpos, hbits⟩

/-- The exponent to which `roundExact` rounds: of the last of `p` bits, or of the smallest normal number's (R509). -/
def Fmt.lastBit (f : Fmt) (e : Int) : Int := max e f.emin - f.precision + 1

/-- Whether a part `t` of the last kept bit rounds up: to nearest, in a tie to even (R509 step 1). -/
def RoundsUp (toZero : Bool) (low : Nat) (t : ℝ) : Prop := toZero = false ∧ (1 < 2 * t ∨ (2 * t = 1 ∧ low % 2 = 1))

/-- Rounding up by the dropped bits: an even number `unit` of them makes one last bit. -/
theorem roundsUp_iff {toZero : Bool} {low rem unit : Nat} {δ : ℝ} (heven : unit % 2 = 0) (hpos : 0 < unit) (h0 : 0 ≤ δ)
    (h1 : δ < 1) : RoundsUp toZero low ((rem + δ) / unit) ↔
      toZero = false ∧ (unit < 2 * rem ∨ (2 * rem = unit ∧ (δ ≠ 0 ∨ low % 2 = 1))) := by
  have hposR : (0 : ℝ) < unit := Nat.cast_pos.mpr hpos
  rw [RoundsUp, ← mul_div_assoc, one_lt_div hposR, div_eq_one_iff_eq hposR.ne']
  refine and_congr_right fun _ => ?_
  rcases lt_trichotomy unit (2 * rem) with hlt | heq | hgt
  · have hltR : (unit : ℝ) < 2 * rem := by exact_mod_cast hlt
    exact iff_of_true (.inl (by linarith)) (.inl hlt)
  · have heqR : (unit : ℝ) = 2 * rem := by exact_mod_cast heq
    rcases h0.eq_or_lt with rfl | hδ
    · simp [heq]
    · exact iff_of_true (.inl (by linarith)) (.inr ⟨heq.symm, .inl hδ.ne'⟩)
  · have hgtR : 2 * (rem : ℝ) + 2 ≤ unit := by exact_mod_cast (by omega : 2 * rem + 2 ≤ unit)
    refine iff_of_false ?_ (by omega)
    rintro (hup | ⟨htie, -⟩) <;> linarith

section Round

variable {f : Fmt} {x : Exact} {r : ℝ} {e : Int}

/-- The exponent of a magnitude is the one of its highest bit. -/
theorem Exact.exponent_of_binade (hr : 0 < r) (h : x.standsFor f r) (he : (2 : ℝ) ^ e ≤ r ∧ r < 2 ^ (e + 1)) :
    x.exp + Nat.log2 x.mant = e := by
  obtain ⟨δ, h0, h1, heq, hsticky, hbits⟩ := Exact.standsFor_iff.mp h
  have hmant : x.mant ≠ 0 := by
    intro hzero
    cases hs : x.sticky with
    | true => simpa [hzero, Fmt.precision] using hbits hs
    | false =>
      have hδ : δ = 0 := by simpa [hs] using hsticky
      simp [heq, hδ, hzero] at hr
  exact binade_unique (binade_of_scaled hmant x.exp h0 h1 heq) he

/-- The branch of `roundExact` that drops no bit. -/
theorem roundExact_of_le {e : Int} (he : x.exp + Nat.log2 x.mant = e) (h : f.lastBit e ≤ x.exp) (toZero : Bool) :
    roundExact f toZero x = ⟨x.mant * 2 ^ (x.exp - f.lastBit e).toNat, f.lastBit e, x.sticky⟩ := by
  subst he
  exact if_pos h

/-- The branch that drops bits. -/
theorem roundExact_of_lt (he : x.exp + Nat.log2 x.mant = e) (h : x.exp < f.lastBit e) (toZero : Bool) {unit : Nat}
    (hunit : unit = 2 ^ (f.lastBit e - x.exp).toNat) :
    roundExact f toZero x = ⟨if (!toZero && (decide (unit < 2 * (x.mant % unit)) ||
      (decide (2 * (x.mant % unit) = unit) && (x.sticky || x.mant / unit % 2 == 1)))) then x.mant / unit + 1
      else x.mant / unit, f.lastBit e, decide (x.mant % unit ≠ 0) || x.sticky⟩ := by
  subst he hunit
  exact if_neg (not_le.mpr h)

open Classical in
/-- What `roundExact` does to the real number `r`: it is a whole number of last bits and a part `t` of one more, and `t`
decides the rounding. -/
theorem roundExact_parts (hr : 0 < r) (h : x.standsFor f r) (he : (2 : ℝ) ^ e ≤ r ∧ r < 2 ^ (e + 1)) :
    ∃ (low : Nat) (t : ℝ), 0 ≤ t ∧ t < 1 ∧ r = (low + t) * 2 ^ f.lastBit e ∧ ∀ toZero,
      roundExact f toZero x = ⟨if RoundsUp toZero low t then low + 1 else low, f.lastBit e, decide (t ≠ 0)⟩ := by
  have hexp := Exact.exponent_of_binade hr h he
  obtain ⟨δ, h0, h1, heq, hsticky, hbits⟩ := Exact.standsFor_iff.mp h
  rcases le_or_gt (f.lastBit e) x.exp with hle | hlt
  case inl =>
    have hquiet : x.sticky = false := by
      by_contra hs
      have := hbits (by simpa using hs)
      simp only [Fmt.lastBit] at hle
      omega
    have hδ : δ = 0 := by simpa [hquiet] using hsticky
    refine ⟨x.mant * 2 ^ (x.exp - f.lastBit e).toNat, 0, le_rfl, one_pos, ?_, fun toZero => ?_⟩
    · rw [heq, hδ, add_zero, add_zero, two_zpow_eq_mul hle, Nat.cast_mul, mul_assoc]
    · rw [roundExact_of_le hexp hle, hquiet]
      simp [RoundsUp]
  case inr =>
    obtain ⟨unit, hunit⟩ : ∃ u : Nat, u = 2 ^ (f.lastBit e - x.exp).toNat := ⟨_, rfl⟩
    have heven : unit % 2 = 0 := by
      obtain ⟨k, hk⟩ : ∃ k, (f.lastBit e - x.exp).toNat = k + 1 := ⟨(f.lastBit e - x.exp).toNat - 1, by omega⟩
      rw [hunit, hk, pow_succ, Nat.mul_mod_left]
    have hupos : 0 < unit := hunit ▸ Nat.two_pow_pos _
    have huposR : (0 : ℝ) < unit := Nat.cast_pos.mpr hupos
    have hrem : x.mant % unit < unit := Nat.mod_lt _ hupos
    have hremR : ((x.mant % unit : Nat) : ℝ) + 1 ≤ unit := by exact_mod_cast hrem
    refine ⟨x.mant / unit, ((x.mant % unit : Nat) + δ) / unit, by positivity, ?_, ?_, fun toZero => ?_⟩
    · rw [div_lt_one huposR]; linarith
    · have hsplit : (x.mant : ℝ) = (x.mant / unit : Nat) * unit + (x.mant % unit : Nat) := by
        exact_mod_cast (Nat.div_add_mod' x.mant unit).symm
      rw [heq, two_zpow_eq_mul hlt.le, ← hunit, hsplit]
      field_simp
      ring
    · rw [roundExact_of_lt hexp hlt toZero hunit]
      have hzero : ((x.mant % unit : Nat) + δ) / unit ≠ 0 ↔ x.mant % unit ≠ 0 ∨ x.sticky = true := by
        rw [hsticky, div_ne_zero_iff, and_iff_left huposR.ne', ← not_and_or, not_iff_not,
          add_eq_zero_iff_of_nonneg (Nat.cast_nonneg _) h0, Nat.cast_eq_zero]
      have hup := roundsUp_iff (toZero := toZero) (low := x.mant / unit) (rem := x.mant % unit) heven hupos h0 h1
      rw [← hsticky] at hup
      congr 1
      · refine if_congr ?_ rfl rfl
        rw [hup]
        simp
      · rw [Bool.eq_iff_iff, decide_eq_true_iff, hzero]
        simp

end Round

/-! ### How far a rounded number lies from what was rounded -/

section Distance

variable {toZero : Bool} {low : Nat} {t u r : ℝ} (h0 : 0 ≤ t) (h1 : t < 1) (hu : 0 < u) (hr : r = (low + t) * u)
include h0 h1 hu hr

/-- What is rounded down lies below by `t` last bits, what is rounded up above by the rest of one. -/
theorem roundsUp_distance [Decidable (RoundsUp toZero low t)] :
    |((if RoundsUp toZero low t then low + 1 else low : Nat) : ℝ) * u - r| =
      (if RoundsUp toZero low t then 1 - t else t) * u := by
  split
  · rw [hr, show ((low + 1 : Nat) : ℝ) * u - (low + t) * u = (1 - t) * u by push_cast; ring,
      abs_of_nonneg (mul_nonneg (by linarith) hu.le)]
  · rw [hr, show (low : ℝ) * u - (low + t) * u = -(t * u) by ring, abs_neg, abs_of_nonneg (mul_nonneg h0 hu.le)]

/-- To nearest: at most half a unit of the last bit away, and even when it is half a unit (R509). -/
theorem nearest_distance [Decidable (RoundsUp false low t)] :
    |((if RoundsUp false low t then low + 1 else low : Nat) : ℝ) * u - r| * 2 ≤ u ∧
    (|((if RoundsUp false low t then low + 1 else low : Nat) : ℝ) * u - r| * 2 = u →
      (if RoundsUp false low t then low + 1 else low) % 2 = 0) := by
  rw [roundsUp_distance h0 h1 hu hr]
  by_cases hup : RoundsUp false low t
  · simp only [if_pos hup]
    obtain ⟨-, hup⟩ := hup
    refine ⟨by rcases hup with h | ⟨h, -⟩ <;> nlinarith, fun htie => ?_⟩
    rcases hup with h | ⟨-, hodd⟩
    · nlinarith
    · omega
  · simp only [if_neg hup]
    simp only [RoundsUp, true_and, not_or, not_and, not_lt] at hup
    obtain ⟨hle, heven⟩ := hup
    refine ⟨by nlinarith, fun htie => ?_⟩
    have hhalf : 2 * t = 1 := by
      have : (2 * t) * u = 1 * u := by linarith
      exact mul_right_cancel₀ hu.ne' this
    have := heven hhalf
    omega

/-- The rounded number is the number itself exactly when no part of a last bit was dropped. -/
theorem rounded_ne_iff [Decidable (RoundsUp toZero low t)] :
    ((if RoundsUp toZero low t then low + 1 else low : Nat) : ℝ) * u ≠ r ↔ t ≠ 0 := by
  rw [← sub_ne_zero, ← abs_ne_zero, roundsUp_distance h0 h1 hu hr, mul_ne_zero_iff, and_iff_left hu.ne']
  split
  · next hup =>
    obtain ⟨-, hup⟩ := hup
    have hpos : 0 < t := by rcases hup with h | ⟨h, -⟩ <;> linarith
    exact iff_of_true (by linarith) hpos.ne'
  · rfl

end Distance

theorem Rounded.cast_value (r : Rounded) : ((r.value : ℚ) : ℝ) = r.mant * 2 ^ r.exp := by
  rw [Rounded.value]; push_cast; rfl

section RoundExact

variable {f : Fmt} {x : Exact} {r : ℝ} {e : Int} (hr : 0 < r) (h : x.standsFor f r)
  (he : (2 : ℝ) ^ e ≤ r ∧ r < 2 ^ (e + 1))
include hr h he

/-- R509 step 1, the first clause of O35. -/
theorem roundExact_rounds :
    (roundExact f false x).exp = f.lastBit e ∧ (roundExact f true x).exp = f.lastBit e ∧
    |((roundExact f false x).value : ℝ) - r| * 2 ≤ 2 ^ f.lastBit e ∧
    (|((roundExact f false x).value : ℝ) - r| * 2 = 2 ^ f.lastBit e → (roundExact f false x).mant % 2 = 0) ∧
    ((roundExact f true x).value : ℝ) ≤ r ∧ r < ((roundExact f true x).value : ℝ) + 2 ^ f.lastBit e ∧
    ∀ toZero : Bool, ((roundExact f toZero x).inexact = true ↔ ((roundExact f toZero x).value : ℝ) ≠ r) := by
  classical
  obtain ⟨low, t, h0, h1, hparts, hround⟩ := roundExact_parts hr h he
  have hu := two_zpow_pos (K := ℝ) (f.lastBit e)
  obtain ⟨hclose, htie⟩ := nearest_distance h0 h1 hu hparts
  have hdown : ¬ RoundsUp true low t := fun hup => Bool.noConfusion hup.1
  simp only [hround, Rounded.cast_value, if_neg hdown, decide_eq_true_iff]
  refine ⟨trivial, trivial, hclose, htie, ?_, ?_, fun toZero => (rounded_ne_iff h0 h1 hu hparts).symm⟩
  · rw [hparts]; nlinarith
  · rw [hparts]; nlinarith

/-- A rounded number has at most `p` significant bits, or is the next power of two (R509). -/
theorem roundExact_mant_le (toZero : Bool) : (roundExact f toZero x).mant ≤ 2 ^ f.precision := by
  obtain ⟨low, t, h0, h1, hparts, hround⟩ := roundExact_parts hr h he
  have hu := two_zpow_pos (K := ℝ) (f.lastBit e)
  have hlow : low < 2 ^ f.precision := by
    have hbinade : (2 : ℝ) ^ (e + 1) ≤ 2 ^ f.precision * 2 ^ f.lastBit e := by
      rw [← zpow_natCast, ← zpow_add₀ two_ne_zero]
      refine zpow_le_zpow_right₀ one_le_two ?_
      simp only [Fmt.lastBit]
      omega
    have hscaled : (low : ℝ) * 2 ^ f.lastBit e < 2 ^ f.precision * 2 ^ f.lastBit e := by nlinarith
    exact_mod_cast lt_of_mul_lt_mul_right hscaled hu.le
  simp only [hround]
  split <;> omega

end RoundExact

end Sys2Proof.Machine

/-! ### The pattern of a rounded number -/

namespace Sys2Proof.Machine

open Sys2Proof

theorem Fmt.expBits_pos {f : Fmt} (hf : f = .single ∨ f = .double) : 0 < f.expBits := by
  rcases hf with rfl | rfl <;> decide
theorem Fmt.emin_le_emax {f : Fmt} (hf : f = .single ∨ f = .double) : f.emin ≤ f.emax := by
  rcases hf with rfl | rfl <;> decide

/-- The exponent fields of normal numbers are those between 0 and all ones. -/
theorem Fmt.two_bias {f : Fmt} (hf : 0 < f.expBits) : 2 * f.bias + 2 = 2 ^ f.expBits := by
  obtain ⟨k, hk⟩ : ∃ k, f.expBits = k + 1 := ⟨f.expBits - 1, by omega⟩
  have hpos : 0 < 2 ^ k := Nat.two_pow_pos k
  rw [Fmt.bias, hk, Nat.add_sub_cancel, pow_succ]
  omega

/-- A pattern whose exponent field is neither 0 nor all ones is a normal number. -/
theorem classify_pattern {f : Fmt} {dn neg : Bool} {e frac : Nat} (hlow : e ≠ 0) (hhigh : e < 2 ^ f.expBits - 1)
    (hfrac : frac < 2 ^ f.fracBits) :
    classify f dn (f.pattern neg e frac) = .norm neg (2 ^ f.fracBits + frac) ((e : Int) - f.bias - f.fracBits) := by
  have he : e < 2 ^ f.expBits := by omega
  have hexp := Fmt.pattern_exp (neg := neg) he hfrac
  rw [classify_of_norm (by rwa [hexp]) (by rw [hexp]; exact hhigh.ne), hexp, Fmt.pattern_frac hfrac,
    Fmt.pattern_isNeg he hfrac]

/-- The significant bits that `encodeNormal` keeps, the leading 1 among them. -/
def Rounded.significand (f : Fmt) (r : Rounded) : Nat :=
  if Nat.log2 r.mant ≤ f.fracBits then r.mant * 2 ^ (f.fracBits - Nat.log2 r.mant)
  else r.mant / 2 ^ (Nat.log2 r.mant - f.fracBits)

theorem encodeNormal_eq_pattern (f : Fmt) (neg : Bool) (r : Rounded) : encodeNormal f neg r =
    f.pattern neg (r.exponent + f.bias).toNat (r.significand f - 2 ^ f.fracBits) := rfl

section Significand

variable {f : Fmt} {r : Rounded} (hne : r.mant ≠ 0) (hle : r.mant ≤ 2 ^ f.precision)
include hne hle

/-- The significand has `p` bits and stands for the same number. -/
theorem Rounded.significand_spec : 2 ^ f.fracBits ≤ r.significand f ∧ r.significand f < 2 ^ (f.fracBits + 1) ∧
    (r.significand f : ℚ) * 2 ^ (r.exponent - f.fracBits) = r.value := by
  have hlow : 2 ^ r.mant.log2 ≤ r.mant := Nat.log2_self_le hne
  have hhigh : r.mant < 2 ^ (r.mant.log2 + 1) := Nat.lt_log2_self
  rw [Rounded.value, Rounded.significand, Rounded.exponent]
  generalize r.mant.log2 = l at hlow hhigh
  split
  · next hl =>
    obtain ⟨k, hk⟩ := Nat.exists_eq_add_of_le hl
    rw [hk, Nat.add_sub_cancel_left, pow_add, show l + k + 1 = l + 1 + k by omega, pow_add 2 (l + 1)]
    refine ⟨Nat.mul_le_mul_right _ hlow, Nat.mul_lt_mul_of_pos_right hhigh (Nat.two_pow_pos k), ?_⟩
    rw [show r.exp + l - ((l + k : Nat) : Int) = r.exp - k by push_cast; ring, zpow_sub₀ two_ne_zero, zpow_natCast]
    push_cast
    field_simp
  · next hl =>
    have hmant : r.mant = 2 ^ (f.fracBits + 1) :=
      le_antisymm hle ((Nat.pow_le_pow_right two_pos (by omega)).trans hlow)
    have hl' : l = f.fracBits + 1 := by
      have := (Nat.pow_le_pow_iff_right one_lt_two).mp (hmant ▸ hlow)
      omega
    rw [hmant, hl', Nat.add_sub_cancel_left, pow_one, pow_succ, Nat.mul_div_cancel _ two_pos]
    refine ⟨le_rfl, by have := Nat.two_pow_pos f.fracBits; omega, ?_⟩
    rw [show r.exp + ((f.fracBits + 1 : Nat) : Int) - f.fracBits = r.exp + 1 by push_cast; ring,
      zpow_add_one₀ two_ne_zero]
    push_cast
    ring

variable (hf : 0 < f.expBits) (hmin : f.emin ≤ r.exponent) (hmax : r.exponent ≤ f.emax) (neg : Bool)
include hf hmin hmax

/-- What `encodeNormal` writes reads back as the number it was given. -/
theorem classify_encodeNormal {dn : Bool} : classify f dn (encodeNormal f neg r) =
    .norm neg (r.significand f) (r.exponent - f.fracBits) := by
  obtain ⟨hlow, hhigh, -⟩ := Rounded.significand_spec hne hle
  have htop := Fmt.two_bias hf
  simp only [Fmt.emin, Fmt.emax] at hmin hmax
  have hfield : (((r.exponent + f.bias).toNat : Nat) : Int) = r.exponent + f.bias := Int.toNat_of_nonneg (by omega)
  rw [encodeNormal_eq_pattern, classify_pattern (by omega) (by omega) (by rw [pow_succ] at hhigh; omega),
    Nat.add_sub_cancel' hlow, hfield, add_sub_cancel_right]

end Significand

/-! ### The four outcomes of the computed path (R509) -/

section Finish

variable {f : Fmt} {toZero : Bool} {x : Exact}

theorem finishValue_zero (h : (roundExact f toZero x).mant = 0) : finishValue f toZero x =
    (if (roundExact f toZero x).inexact then 0x0000300C else 0, f.zero x.neg) := by
  simp only [finishValue, if_pos h]
  rfl
theorem finishValue_overflow (h0 : (roundExact f toZero x).mant ≠ 0)
    (h : f.emax < (roundExact f toZero x).exponent) : finishValue f toZero x =
      (0x00005014, if toZero then f.maxNorm x.neg else f.infinity x.neg) := by
  simp only [finishValue, if_neg h0, if_pos h]
  rfl
theorem finishValue_underflow (hf : f.emin ≤ f.emax) (h0 : (roundExact f toZero x).mant ≠ 0)
    (h : (roundExact f toZero x).exponent < f.emin) : finishValue f toZero x = (0x0000300C, f.zero x.neg) := by
  have hmax : ¬ f.emax < (roundExact f toZero x).exponent := by omega
  simp only [finishValue, if_neg h0, if_neg hmax, if_pos h]
  rfl
theorem finishValue_normal (h0 : (roundExact f toZero x).mant ≠ 0) (hmin : f.emin ≤ (roundExact f toZero x).exponent)
    (hmax : (roundExact f toZero x).exponent ≤ f.emax) : finishValue f toZero x =
      (if (roundExact f toZero x).inexact then 0x00001004 else 0, encodeNormal f x.neg (roundExact f toZero x)) := by
  simp only [finishValue, if_neg h0, if_neg hmax.not_gt, if_neg hmin.not_gt]
  rfl

theorem finish_of_value {w : Word} {p : Nat} (h : finishValue f toZero x = (w, p)) (trap : Bool) :
    finish f toZero trap x = ⟨w, if trap then .trap else .write p⟩ := by
  rw [finish, h]

/-- An exact zero rounds to itself. -/
theorem roundExact_zero (hs : x.sticky = false) (hm : x.mant = 0) :
    (roundExact f toZero x).mant = 0 ∧ (roundExact f toZero x).inexact = false := by
  have hexp : x.exp + Nat.log2 x.mant = x.exp := by simp [hm]
  rcases le_or_gt (f.lastBit x.exp) x.exp with hle | hlt
  · rw [roundExact_of_le hexp hle, hm, hs]
    simp
  · rw [roundExact_of_lt hexp hlt toZero rfl, hm, hs]
    simp [(Nat.two_pow_pos _).ne]

/-- A zero takes the computed path to a zero of its sign and raises nothing (R509 step 2). -/
theorem finish_zero (hs : x.sticky = false) (hm : x.mant = 0) (trap : Bool) :
    finish f toZero trap x = ⟨0, if trap then .trap else .write (f.zero x.neg)⟩ := by
  obtain ⟨hmant, hinexact⟩ := roundExact_zero (f := f) (toZero := toZero) hs hm
  exact finish_of_value (by rw [finishValue_zero hmant, hinexact]; rfl) trap

end Finish

/-- The binade of a rounded number is the one of its exponent. -/
theorem Rounded.binade {r : Rounded} (h : r.mant ≠ 0) :
    (2 : ℝ) ^ r.exponent ≤ (r.value : ℝ) ∧ (r.value : ℝ) < 2 ^ (r.exponent + 1) :=
  binade_of_scaled h r.exp le_rfl one_pos (by rw [Rounded.cast_value, add_zero])

theorem Rounded.mant_ne_zero {r : Rounded} (h : (0 : ℝ) < r.value) : r.mant ≠ 0 := by
  intro h0
  simp [Rounded.cast_value, h0] at h

theorem two_zpow_lt_iff {a b : Int} : (2 : ℝ) ^ a < 2 ^ b ↔ a < b := zpow_lt_zpow_iff_right₀ one_lt_two

theorem finish_overflow {f : Fmt} {toZero : Bool} {x : Exact}
    (hv : (2 : ℝ) ^ (f.emax + 1) ≤ (roundExact f toZero x).value) (trap : Bool) :
    finish f toZero trap x =
      ⟨0x00005014, if trap then .trap else .write (if toZero then f.maxNorm x.neg else f.infinity x.neg)⟩ := by
  have h0 := Rounded.mant_ne_zero ((two_zpow_pos _).trans_le hv)
  have hexp := two_zpow_lt_iff.mp (hv.trans_lt (Rounded.binade h0).2)
  exact finish_of_value (finishValue_overflow h0 (by omega)) trap

section Outcomes

variable {f : Fmt} {toZero : Bool} {x : Exact} {r : ℝ} (hr : 0 < r) (h : x.standsFor f r)
include hr h

/-- What a positive number that rounds to nothing raises: it was not exact. -/
theorem inexact_of_zero (h0 : (roundExact f toZero x).mant = 0) : (roundExact f toZero x).inexact = true := by
  obtain ⟨e, he⟩ := exists_mem_Ico_zpow hr one_lt_two
  obtain ⟨-, -, -, -, -, -, hinexact⟩ := roundExact_rounds hr h he
  rw [hinexact, Rounded.cast_value, h0, Nat.cast_zero, zero_mul]
  exact hr.ne

variable (hf : f = .single ∨ f = .double)
include hf

theorem finish_underflow (hv : ((roundExact f toZero x).value : ℝ) < 2 ^ f.emin) (trap : Bool) :
    finish f toZero trap x = ⟨0x0000300C, if trap then .trap else .write (f.zero x.neg)⟩ := by
  by_cases h0 : (roundExact f toZero x).mant = 0
  · exact finish_of_value (by rw [finishValue_zero h0, if_pos (inexact_of_zero hr h h0)]) trap
  · have hexp := two_zpow_lt_iff.mp ((Rounded.binade h0).1.trans_lt hv)
    exact finish_of_value (finishValue_underflow (Fmt.emin_le_emax hf) h0 hexp) trap

theorem finish_normal (hmin : (2 : ℝ) ^ f.emin ≤ (roundExact f toZero x).value)
    (hmax : ((roundExact f toZero x).value : ℝ) < 2 ^ (f.emax + 1)) (trap : Bool) : ∃ p m e,
      finish f toZero trap x = ⟨if (roundExact f toZero x).inexact then 0x00001004 else 0, if trap then .trap else
        .write p⟩ ∧
      classify f true p = .norm x.neg m e ∧ ((m * 2 ^ e : ℚ) : ℝ) = ((roundExact f toZero x).value : ℝ) := by
  obtain ⟨k, hk⟩ := exists_mem_Ico_zpow hr one_lt_two
  have hle := roundExact_mant_le hr h hk toZero
  have h0 := Rounded.mant_ne_zero ((two_zpow_pos _).trans_le hmin)
  obtain ⟨hlow, hhigh⟩ := Rounded.binade h0
  have hexpMin := two_zpow_lt_iff.mp (hmin.trans_lt hhigh)
  have hexpMax := two_zpow_lt_iff.mp (hlow.trans_lt hmax)
  have hread := classify_encodeNormal (dn := true) h0 hle (Fmt.expBits_pos hf) (by omega) (by omega) x.neg
  exact ⟨_, _, _, finish_of_value (finishValue_normal h0 (by omega) (by omega)) trap, hread,
    congrArg _ (Rounded.significand_spec h0 hle).2.2⟩

end Outcomes

/-- Settles O35: the distance from the parts of the rounded number, the outcomes from its exponent. -/
theorem fp_rounding_and_finish : Obligations.fp_rounding_and_finish := by
  unfold Obligations.fp_rounding_and_finish
  refine ⟨fun f x r e q hf hr h hlow hhigh hq => hq ▸ roundExact_rounds hr h ⟨hlow, hhigh⟩,
    fun f toZero trap x r v hf hr h hv => ?_, fun f toZero trap x hs hm => finish_zero hs hm trap⟩
  subst hv
  exact ⟨fun hover => finish_overflow hover trap, fun hunder => finish_underflow hr h hf hunder trap,
    fun hmin hmax => finish_normal hr h hf hmin hmax trap⟩

end Sys2Proof.Machine

/-! ### Exact numbers and the classes that stand for them (R501) -/

namespace Sys2Proof.Machine

open Sys2Proof

theorem FpNum.value_norm (neg : Bool) (m : Nat) (e : Int) :
    (FpNum.norm neg m e).value = (if neg then -1 else 1) * m * 2 ^ e := rfl

theorem FpNum.abs_value_norm (neg : Bool) (m : Nat) (e : Int) : |(FpNum.norm neg m e).value| = m * 2 ^ e := by
  have hpos := two_zpow_pos (K := ℚ) e
  rw [FpNum.value_norm, abs_mul, abs_mul, abs_of_pos hpos, Nat.abs_cast]
  cases neg <;> simp

theorem FpNum.value_norm_eq_zero_iff {neg : Bool} {m : Nat} {e : Int} :
    (FpNum.norm neg m e).value = 0 ↔ m = 0 := by
  have hpos := two_zpow_pos (K := ℚ) e
  rw [← abs_eq_zero, FpNum.abs_value_norm, mul_eq_zero_iff_right hpos.ne', Nat.cast_eq_zero]

theorem FpNum.value_norm_neg_iff {neg : Bool} {m : Nat} {e : Int} :
    (FpNum.norm neg m e).value < 0 ↔ neg = true ∧ m ≠ 0 := by
  have hnonneg : (0 : ℚ) ≤ m * 2 ^ e := by positivity
  have hzero := FpNum.value_norm_eq_zero_iff (neg := neg) (m := m) (e := e)
  cases neg with
  | false => simpa [FpNum.value_norm] using hnonneg
  | true =>
    have hle : (FpNum.norm true m e).value ≤ 0 := by rw [FpNum.value_norm, if_pos rfl]; linarith
    rw [lt_iff_le_and_ne, and_iff_right hle, Ne, hzero]
    simp

/-- The number of an exact magnitude with its sign; without a sticky part it is all of the number. -/
def Exact.signed (x : Exact) : ℚ := (FpNum.norm x.neg x.mant x.exp).value

theorem Exact.standsFor_signed {x : Exact} (hs : x.sticky = false) (f : Fmt) :
    x.standsFor f |((x.signed : ℚ) : ℝ)| := by
  rw [Exact.standsFor, hs, if_neg Bool.false_ne_true, ← Rat.cast_abs, Exact.signed, FpNum.abs_value_norm]
  push_cast
  rfl

/-- The sign of an integer times its magnitude. -/
theorem sign_mul_natAbs (k : Int) : (if decide (k < 0) then -1 else 1 : ℚ) * (k.natAbs : ℚ) = k := by
  rw [Nat.cast_natAbs, Int.cast_abs]
  split
  · next h =>
    have hneg : (k : ℚ) < 0 := by exact_mod_cast of_decide_eq_true h
    rw [abs_of_neg hneg]
    ring
  · next h =>
    have hpos : (0 : ℚ) ≤ k := by exact_mod_cast Int.not_lt.mp (by simpa using h)
    rw [abs_of_nonneg hpos, one_mul]

section Arithmetic

variable (n1 n2 : Bool) (m1 m2 : Nat) (e1 e2 : Int)

/-- A number as a whole multiple of a power of two below its own. -/
theorem FpNum.value_norm_lower {neg : Bool} {m : Nat} {e k : Int} (h : k ≤ e) : (FpNum.norm neg m e).value =
    ((if neg then -((m * 2 ^ (e - k).toNat : Nat) : Int) else (m * 2 ^ (e - k).toNat : Nat) : Int) : ℚ) * 2 ^ k := by
  rw [FpNum.value_norm, two_zpow_eq_mul h]
  cases neg <;> simp <;> ring

theorem exactAdd_signed : (exactAdd n1 m1 e1 n2 m2 e2).signed =
    (FpNum.norm n1 m1 e1).value + (FpNum.norm n2 m2 e2).value := by
  rw [FpNum.value_norm_lower (min_le_left e1 e2), FpNum.value_norm_lower (min_le_right e1 e2), ← add_mul,
    ← Int.cast_add, ← sign_mul_natAbs]
  rfl

theorem exactAdd_neg : (exactAdd n1 m1 e1 n2 m2 e2).neg =
    decide ((FpNum.norm n1 m1 e1).value + (FpNum.norm n2 m2 e2).value < 0) := by
  rw [Bool.eq_iff_iff, decide_eq_true_iff, ← exactAdd_signed, Exact.signed, FpNum.value_norm_neg_iff]
  simp only [exactAdd, decide_eq_true_iff, Ne, Int.natAbs_eq_zero]
  exact ⟨fun h => ⟨h, h.ne⟩, And.left⟩

theorem exactMul_signed : (exactMul n1 m1 e1 n2 m2 e2).signed =
    (FpNum.norm n1 m1 e1).value * (FpNum.norm n2 m2 e2).value := by
  rw [Exact.signed, exactMul, FpNum.value_norm, FpNum.value_norm, FpNum.value_norm, zpow_add₀ two_ne_zero, Nat.cast_mul]
  cases n1 <;> cases n2 <;> simp <;> ring

/-- The quotient of two significands of `p` bits, with what its last bit drops (R509). -/
theorem exactDiv_standsFor {f : Fmt} (h1 : 2 ^ f.fracBits ≤ m1) (h2 : 2 ^ f.fracBits ≤ m2)
    (h2' : m2 < 2 ^ (f.fracBits + 1)) : (exactDiv f n1 m1 e1 n2 m2 e2).standsFor f
      |(((FpNum.norm n1 m1 e1).value / (FpNum.norm n2 m2 e2).value : ℚ) : ℝ)| := by
  have hpow : 0 < 2 ^ f.fracBits := Nat.two_pow_pos _
  have hpos : 0 < m2 := by omega
  have hposR : (0 : ℝ) < m2 := Nat.cast_pos.mpr hpos
  have hquot : |(((FpNum.norm n1 m1 e1).value / (FpNum.norm n2 m2 e2).value : ℚ) : ℝ)| =
      (m1 * 2 ^ (f.precision + 3) : Nat) / m2 * 2 ^ (e1 - e2 - (f.precision + 3 : Nat)) := by
    rw [← Rat.cast_abs, abs_div, FpNum.abs_value_norm, FpNum.abs_value_norm, zpow_sub₀ two_ne_zero,
      zpow_sub₀ two_ne_zero, zpow_natCast]
    push_cast
    field_simp
  have hsplit : ((m1 * 2 ^ (f.precision + 3) : Nat) : ℝ) = (m1 * 2 ^ (f.precision + 3) / m2 : Nat) * m2 +
      (m1 * 2 ^ (f.precision + 3) % m2 : Nat) := by exact_mod_cast (Nat.div_add_mod' _ m2).symm
  have hrem : ((m1 * 2 ^ (f.precision + 3) % m2 : Nat) : ℝ) < m2 := by exact_mod_cast Nat.mod_lt _ hpos
  refine Exact.standsFor_iff.mpr ⟨(m1 * 2 ^ (f.precision + 3) % m2 : Nat) / m2, by positivity,
    (div_lt_one hposR).mpr hrem, ?_, ?_, fun _ => ?_⟩
  · rw [hquot, hsplit, add_div, mul_div_cancel_right₀ _ hposR.ne']
    rfl
  · rw [div_ne_zero_iff, and_iff_left hposR.ne', Nat.cast_ne_zero]
    exact decide_eq_true_iff
  · have hbits : 2 ^ f.precision ≤ m1 * 2 ^ (f.precision + 3) / m2 := by
      rw [Nat.le_div_iff_mul_le hpos]
      calc 2 ^ f.precision * m2 ≤ 2 ^ f.precision * (2 ^ f.fracBits * 2) := Nat.mul_le_mul_left _ (by omega)
        _ ≤ 2 ^ f.precision * (m1 * 8) := Nat.mul_le_mul_left _ (by omega)
        _ = m1 * 2 ^ (f.precision + 3) := by ring
    exact (Nat.le_log2 ((Nat.two_pow_pos _).trans_le hbits).ne').mpr hbits

end Arithmetic

/-! ### Operand classes in the documented setting -/

theorem operandClass_eq {env : FpEnv} (hq : env.quietSignals = false) (f : Fmt) (x : Nat) :
    operandClass f env x = classify f env.dn x := by
  rw [operandClass, hq]
  cases classify f env.dn x <;> rfl

theorem classify_ne_denorm (f : Fmt) (x : Nat) (neg : Bool) : classify f true x ≠ .denorm neg := by
  unfold classify
  simp only
  split_ifs <;> simp_all

/-- A normal operand's sign, significand and exponent come from its fields (R501). -/
theorem classify_norm_fields {f : Fmt} {dn neg : Bool} {x m : Nat} {e : Int} (h : classify f dn x = .norm neg m e) :
    neg = f.isNeg x ∧ m = 2 ^ f.fracBits + x % 2 ^ f.fracBits ∧
    e = ((x / 2 ^ f.fracBits % 2 ^ f.expBits : Nat) : Int) - f.bias - f.fracBits ∧
    x / 2 ^ f.fracBits % 2 ^ f.expBits ≠ 0 ∧ x / 2 ^ f.fracBits % 2 ^ f.expBits ≠ 2 ^ f.expBits - 1 := by
  unfold classify at h
  simp only at h
  split_ifs at h with htop _ _ hzero
  obtain ⟨rfl, rfl, rfl⟩ := FpNum.norm.inj h
  exact ⟨rfl, rfl, rfl, hzero, htop⟩

/-- The sign and the size of the significand of a normal operand. -/
theorem classify_eq_norm {f : Fmt} {dn neg : Bool} {x m : Nat} {e : Int} (h : classify f dn x = .norm neg m e) :
    neg = f.isNeg x ∧ 2 ^ f.fracBits ≤ m ∧ m < 2 ^ (f.fracBits + 1) := by
  obtain ⟨hneg, hm, -⟩ := classify_norm_fields h
  have hfrac : x % 2 ^ f.fracBits < 2 ^ f.fracBits := Nat.mod_lt _ (Nat.two_pow_pos _)
  rw [pow_succ]
  exact ⟨hneg, by omega, by omega⟩

theorem FpNum.isInf_iff {A : FpNum} : A.isInf = true ↔ ∃ neg, A = .inf neg := by
  cases A <;> simp [FpNum.isInf]
theorem FpNum.isZero_iff {A : FpNum} : A.isZero = true ↔ ∃ neg, A = .zero neg := by
  cases A <;> simp [FpNum.isZero]

/-! ### A pattern with its sign inverted -/

/-- A class with its sign inverted. -/
def FpNum.negated : FpNum → FpNum
  | .inf neg => .inf (!neg)
  | .zero neg => .zero (!neg)
  | .denorm neg => .denorm (!neg)
  | .norm neg m e => .norm (!neg) m e
  | c => c

theorem FpNum.value_negated (A : FpNum) : A.negated.value = -A.value := by
  cases A with
  | norm neg m e => cases neg <;> simp [FpNum.negated, FpNum.value]
  | _ => simp [FpNum.negated, FpNum.value]

section Negate

variable {f : Fmt} {x : Nat} (hx : x < 2 * f.signWeight)
include hx

/-- Inverting the sign is a step by the sign bit's weight. -/
theorem Fmt.negate_eq : f.negate x = if f.signWeight ≤ x then x - f.signWeight else x + f.signWeight := by
  rw [Fmt.negate, show x.testBit (f.expBits + f.fracBits) = f.isNeg x from rfl, Fmt.isNeg_eq_decide hx]
  simp only [decide_eq_true_eq]

theorem Fmt.negate_mod : f.negate x % f.signWeight = x % f.signWeight := by
  rw [Fmt.negate_eq hx]
  split
  · next h => exact (Nat.mod_eq_sub_mod h).symm
  · exact Nat.add_mod_right _ _

theorem Fmt.negate_isNeg : f.isNeg (f.negate x) = !f.isNeg x := by
  have hlt : f.negate x < 2 * f.signWeight := by rw [Fmt.negate_eq hx]; split <;> omega
  rw [Fmt.isNeg_eq_decide hx, Fmt.isNeg_eq_decide hlt, Fmt.negate_eq hx]
  by_cases h : f.signWeight ≤ x
  · have hlow : ¬ f.signWeight ≤ x - f.signWeight := by omega
    simp [h, hlow]
  · simp [h]

theorem classify_negate (dn : Bool) : classify f dn (f.negate x) = (classify f dn x).negated := by
  have hexp := (Fmt.expField_of_magnitude (f := f) (x := f.negate x) (Fmt.negate_mod hx).symm).trans
    (Fmt.expField_of_magnitude (f := f) (x := x) rfl).symm
  have hfrac := (Fmt.fracField_of_magnitude (f := f) (x := f.negate x) (Fmt.negate_mod hx).symm).trans
    (Fmt.fracField_of_magnitude (f := f) (x := x) rfl).symm
  have hneg := Fmt.negate_isNeg hx
  unfold Fmt.isNeg at hneg
  simp only [classify, hexp, hfrac, hneg]
  split_ifs <;> rfl

end Negate

end Sys2Proof.Machine

/-! ### The tables of FADD, FSUB, FMUL, FDIV and FMAC (R514 to R518) -/

namespace Sys2Proof.Machine

open Sys2Proof

section Lines

variable {f : Fmt} {env : FpEnv} {a b : Nat} {A B : FpNum} (hA : operandClass f env a = A)
  (hB : operandClass f env b = B)
include hA hB

/-- Every line of FADD's table, by the classes of the operands. -/
theorem fpAdd_table :
    (A = .snan ∨ B = .snan → fpAdd f env a b = .invalid f env) ∧
    (A ≠ .snan → B ≠ .snan → A = .qnan ∨ B = .qnan → fpAdd f env a b = .exact f.qnan) ∧
    (∀ n1 m1 e1 n2 m2 e2, A = .norm n1 m1 e1 → B = .norm n2 m2 e2 → ∃ x : Exact,
      x.standsFor f |((A.value + B.value : ℚ) : ℝ)| ∧ x.neg = decide (A.value + B.value < 0) ∧
      fpAdd f env a b = finish f env.toZero env.enOUI x) ∧
    (∀ n1 n2 m2 e2, B = .norm n2 m2 e2 → A = .zero n1 → fpAdd f env a b = .exact b) ∧
    (∀ n1 n2 m2 e2, B = .norm n2 m2 e2 → A = .inf n1 → fpAdd f env a b = .exact a) ∧
    (∀ n1 n2, A = .zero n1 → B = .zero n2 → fpAdd f env a b = .exact (f.zero (n1 && n2))) ∧
    (∀ n1 m1 e1 n2, A = .norm n1 m1 e1 → B = .zero n2 → fpAdd f env a b = .exact a) ∧
    (∀ n1 n2, A = .inf n1 → B = .zero n2 → fpAdd f env a b = .exact a) ∧
    (∀ n1 n2, A = .inf n1 → B = .inf n2 →
      fpAdd f env a b = if n1 = n2 then .exact (f.infinity n2) else .invalid f env) ∧
    (∀ n1 n2, A = .zero n1 → B = .inf n2 → fpAdd f env a b = .exact (f.infinity n2)) ∧
    (∀ n1 m1 e1 n2, A = .norm n1 m1 e1 → B = .inf n2 → fpAdd f env a b = .exact (f.infinity n2)) := by
  simp only [fpAdd, hA, hB]
  clear hA hB
  refine ⟨?snan, ?qnan, ?norm, ?_, ?_, ?_, ?_, ?_, ?_, ?_, ?_⟩
  case snan =>
    rintro (rfl | rfl)
    · rfl
    · cases A <;> rfl
  case qnan =>
    rintro h1 h2 (rfl | rfl)
    · cases B <;> first | rfl | exact absurd rfl h2
    · cases A <;> first | rfl | exact absurd rfl h1
  case norm =>
    rintro n1 m1 e1 n2 m2 e2 rfl rfl
    refine ⟨exactAdd n1 m1 e1 n2 m2 e2, ?_, exactAdd_neg .., rfl⟩
    rw [← exactAdd_signed]
    exact Exact.standsFor_signed rfl f
  all_goals
    intros
    subst A B
    rfl

/-- Every line of FMUL's table but the product's sign (R516). -/
theorem fpMul_table :
    (A = .snan ∨ B = .snan → fpMul f env a b = .invalid f env) ∧
    (A ≠ .snan → B ≠ .snan → A = .qnan ∨ B = .qnan → fpMul f env a b = .exact f.qnan) ∧
    (∀ n1 n2, A = .zero n1 → B = .inf n2 → fpMul f env a b = .invalid f env) ∧
    (∀ n1 n2, A = .inf n1 → B = .zero n2 → fpMul f env a b = .invalid f env) ∧
    (A.isNan = false → B.isNan = false → A.isZero = false → B.isZero = false → A.isInf = true ∨ B.isInf = true →
      fpMul f env a b = .exact (f.infinity (f.isNeg a ^^ f.isNeg b))) ∧
    (A.isNan = false → B.isNan = false → A.isInf = false → B.isInf = false → A.isZero = true ∨ B.isZero = true →
      fpMul f env a b = .exact (f.zero (f.isNeg a ^^ f.isNeg b))) ∧
    (∀ n1 m1 e1 n2 m2 e2, A = .norm n1 m1 e1 → B = .norm n2 m2 e2 →
      fpMul f env a b = finish f env.toZero env.enOUI (exactMul n1 m1 e1 n2 m2 e2)) := by
  simp only [fpMul, hA, hB]
  clear hA hB
  refine ⟨?snan, ?qnan, ?_, ?_, ?inf, ?zero, ?_⟩
  case snan =>
    rintro (rfl | rfl)
    · rfl
    · cases A <;> rfl
  case qnan =>
    rintro h1 h2 (rfl | rfl)
    · cases B <;> first | rfl | exact absurd rfl h2
    · cases A <;> first | rfl | exact absurd rfl h1
  case inf =>
    rintro hA hB hA0 hB0 (h | h) <;> obtain ⟨n, rfl⟩ := FpNum.isInf_iff.mp h
    · cases B <;> first | rfl | contradiction
    · cases A <;> first | rfl | contradiction
  case zero =>
    rintro hA hB hA0 hB0 (h | h) <;> obtain ⟨n, rfl⟩ := FpNum.isZero_iff.mp h
    · cases B <;> first | rfl | contradiction
    · cases A <;> first | rfl | contradiction
  all_goals
    intros
    subst A B
    rfl

/-- Every line of FDIV's table but the quotient's sign; no operand is denormalized (R517). -/
theorem fpDiv_table (hdenorm : ∀ neg, A ≠ .denorm neg) :
    (A = .snan ∨ B = .snan → fpDiv f env a b = .invalid f env) ∧
    (A ≠ .snan → B ≠ .snan → A = .qnan ∨ B = .qnan → fpDiv f env a b = .exact f.qnan) ∧
    (∀ n1 n2, A = .zero n1 → B = .zero n2 → fpDiv f env a b = .invalid f env) ∧
    (∀ n1 n2, A = .inf n1 → B = .inf n2 → fpDiv f env a b = .invalid f env) ∧
    (∀ n1 m1 e1 n2, A = .norm n1 m1 e1 → B = .zero n2 → fpDiv f env a b = .divideByZero f env (f.isNeg a ^^ f.isNeg
      b)) ∧
    (∀ n1 n2, A = .inf n1 → B = .zero n2 → fpDiv f env a b = .exact (f.infinity (f.isNeg a ^^ f.isNeg b))) ∧
    (∀ n2, B = .inf n2 → A.isNan = false → A.isInf = false → fpDiv f env a b = .exact (f.zero (f.isNeg a ^^ f.isNeg
      b))) ∧
    (∀ n1 n2 m2 e2, B = .norm n2 m2 e2 → A = .inf n1 → fpDiv f env a b = .exact (f.infinity (f.isNeg a ^^ f.isNeg
      b))) ∧
    (∀ n1 n2 m2 e2, B = .norm n2 m2 e2 → A = .zero n1 → fpDiv f env a b = .exact (f.zero (f.isNeg a ^^ f.isNeg b))) ∧
    (∀ n1 m1 e1 n2 m2 e2, A = .norm n1 m1 e1 → B = .norm n2 m2 e2 →
      fpDiv f env a b = finish f env.toZero env.enOUI (exactDiv f n1 m1 e1 n2 m2 e2)) := by
  simp only [fpDiv, hA, hB]
  clear hA hB
  refine ⟨?snan, ?qnan, ?_, ?_, ?_, ?_, ?byInf, ?_, ?_, ?_⟩
  case snan =>
    rintro (rfl | rfl)
    · rfl
    · cases A <;> rfl
  case qnan =>
    rintro h1 h2 (rfl | rfl)
    · cases B <;> first | rfl | exact absurd rfl h2
    · cases A <;> first | rfl | exact absurd rfl h1
  case byInf =>
    rintro n2 rfl hA hA0
    cases A <;> first | rfl | contradiction | exact absurd rfl (hdenorm _)
  all_goals
    intros
    subst A B
    rfl

end Lines

/-- With DN = 1 and QIS without effect an operand's class is the one of the table of classes (R502, R508). -/
theorem operandClass_of_classify {env : FpEnv} (hdn : env.dn = true) (hq : env.quietSignals = false) {f : Fmt} {x : Nat}
    {X : FpNum} (hX : X = classify f true x) : operandClass f env x = X := by rw [operandClass_eq hq, hdn, hX]

/-- The product of two normal operands, with its sign (R516). -/
theorem exactMul_of_operands {f : Fmt} {a b m1 m2 : Nat} {n1 n2 : Bool} {e1 e2 : Int}
    (hA : classify f true a = .norm n1 m1 e1) (hB : classify f true b = .norm n2 m2 e2) :
    (exactMul n1 m1 e1 n2 m2 e2).standsFor f
      |(((FpNum.norm n1 m1 e1).value * (FpNum.norm n2 m2 e2).value : ℚ) : ℝ)| ∧
    (exactMul n1 m1 e1 n2 m2 e2).neg = (f.isNeg a ^^ f.isNeg b) := by
  obtain ⟨rfl, -⟩ := classify_eq_norm hA
  obtain ⟨rfl, -⟩ := classify_eq_norm hB
  rw [← exactMul_signed]
  exact ⟨Exact.standsFor_signed rfl f, rfl⟩

/-- The quotient of two normal operands, with its sign (R517). -/
theorem exactDiv_of_operands {f : Fmt} {a b m1 m2 : Nat} {n1 n2 : Bool} {e1 e2 : Int}
    (hA : classify f true a = .norm n1 m1 e1) (hB : classify f true b = .norm n2 m2 e2) :
    (exactDiv f n1 m1 e1 n2 m2 e2).standsFor f
      |(((FpNum.norm n1 m1 e1).value / (FpNum.norm n2 m2 e2).value : ℚ) : ℝ)| ∧
    (exactDiv f n1 m1 e1 n2 m2 e2).neg = (f.isNeg a ^^ f.isNeg b) := by
  obtain ⟨rfl, hlow1, -⟩ := classify_eq_norm hA
  obtain ⟨rfl, hlow2, hhigh2⟩ := classify_eq_norm hB
  exact ⟨exactDiv_standsFor _ _ m1 m2 e1 e2 hlow1 hlow2 hhigh2, rfl⟩

/-- Settles O30: FADD's table on the classes, and on the class of FRm with its sign inverted. -/
theorem fadd_fsub_tables : Obligations.fadd_fsub_tables := by
  unfold Obligations.fadd_fsub_tables
  refine ⟨fun m n s => ⟨rfl, rfl⟩, fun m n s => ⟨rfl, rfl⟩, fun m n s => ⟨rfl, rfl⟩, fun m n s => ⟨rfl, rfl⟩,
    fun f env a b A B _ hdn hq _ _ hA hB => fpAdd_table (operandClass_of_classify hdn hq hA)
      (operandClass_of_classify hdn hq hB), fun f env a b A B _ hdn hq _ hb hA hB => ?sub⟩
  case sub =>
    have hB' : B.negated = classify f true (f.negate b) := by rw [hB, classify_negate hb]
    obtain ⟨hsnan, hqnan, hnorm, hzn, hin, hzz, hnz, hiz, hii, hzi, hni⟩ := fpAdd_table
      (operandClass_of_classify hdn hq hA) (operandClass_of_classify hdn hq hB')
    rw [FpNum.value_negated] at hnorm
    simp only [← sub_eq_add_neg] at hnorm
    have flip {C : FpNum} (h : B = C) : B.negated = C.negated := congrArg FpNum.negated h
    refine ⟨fun h => hsnan (h.imp_right flip), fun h1 h2 h => hqnan h1 ?quiet (h.imp_right flip), ?norm,
      fun n1 n2 m2 e2 h2 h1 => hzn n1 (!n2) m2 e2 (flip h2) h1,
      fun n1 n2 m2 e2 h2 h1 => hin n1 (!n2) m2 e2 (flip h2) h1,
      fun n1 n2 h1 h2 => hzz n1 (!n2) h1 (flip h2), fun n1 m1 e1 n2 h1 h2 => hnz n1 m1 e1 (!n2) h1 (flip h2),
      fun n1 n2 h1 h2 => hiz n1 (!n2) h1 (flip h2), fun n1 n2 h1 h2 => (hii n1 (!n2) h1 (flip h2)).trans ?infs,
      fun n1 n2 h1 h2 => hzi n1 (!n2) h1 (flip h2), fun n1 m1 e1 n2 h1 h2 => hni n1 m1 e1 (!n2) h1 (flip h2)⟩
    case quiet => cases B <;> first | exact absurd rfl h2 | exact FpNum.noConfusion
    case norm =>
      intro n1 m1 e1 n2 m2 e2 h1 h2
      exact hnorm n1 m1 e1 (!n2) m2 e2 h1 (flip h2)
    case infs => cases n1 <;> cases n2 <;> rfl

/-- Settles O31: the two tables on the classes, with the sign of a normal operand. -/
theorem fmul_fdiv_tables : Obligations.fmul_fdiv_tables := by
  unfold Obligations.fmul_fdiv_tables
  refine ⟨fun m n s => ⟨rfl, rfl⟩, fun m n s => ⟨rfl, rfl⟩, fun m n s => ⟨rfl, rfl⟩, fun m n s => ⟨rfl, rfl⟩,
    fun f env a b A B _ hdn hq _ _ hA hB => ?mul, fun f env a b A B _ hdn hq _ _ hA hB => ?div⟩
  case mul =>
    obtain ⟨hsnan, hqnan, hzi, hiz, hinf, hzero, hnorm⟩ := fpMul_table (operandClass_of_classify hdn hq hA)
      (operandClass_of_classify hdn hq hB)
    refine ⟨hsnan, hqnan, hzi, hiz, hinf, hzero, ?_⟩
    rintro n1 m1 e1 n2 m2 e2 rfl rfl
    obtain ⟨hstands, hneg⟩ := exactMul_of_operands hA.symm hB.symm
    exact ⟨_, hstands, hneg, hnorm _ _ _ _ _ _ rfl rfl⟩
  case div =>
    obtain ⟨hsnan, hqnan, hzz, hii, hnz, hiz, hbyInf, hin, hzn, hnorm⟩ := fpDiv_table
      (operandClass_of_classify hdn hq hA) (operandClass_of_classify hdn hq hB) (hA ▸ classify_ne_denorm f a)
    refine ⟨hsnan, hqnan, hzz, hii, hnz, hiz, hbyInf, hin, hzn, ?_⟩
    rintro n1 m1 e1 n2 m2 e2 rfl rfl
    obtain ⟨hstands, hneg⟩ := exactDiv_of_operands hA.symm hB.symm
    exact ⟨_, hstands, hneg, hnorm _ _ _ _ _ _ rfl rfl⟩

end Sys2Proof.Machine

/-! ### The table of FMAC (R518) -/

namespace Sys2Proof.Machine

open Sys2Proof

/-- A class that is no NaN, infinity or denormalized number is a zero or a normal number. -/
theorem FpNum.zero_or_norm {A : FpNum} (hs : A ≠ .snan) (hq : A ≠ .qnan) (hi : A.isInf = false)
    (hd : A.isDenorm = false) : (∃ neg, A = .zero neg) ∨ ∃ neg m e, A = .norm neg m e := by
  cases A with
  | zero neg => exact .inl ⟨neg, rfl⟩
  | norm neg m e => exact .inr ⟨neg, m, e, rfl⟩
  | _ => contradiction

theorem FpNum.isDenorm_eq_false {A : FpNum} (h : ∀ neg, A ≠ .denorm neg) : A.isDenorm = false := by
  cases A with
  | denorm neg => exact absurd rfl (h neg)
  | _ => rfl

/-- The sign of a magnitude other than 0 is the sign of its number. -/
theorem Exact.neg_eq_decide {x : Exact} (h : x.mant ≠ 0) : x.neg = decide (x.signed < 0) := by
  rw [Exact.signed, Bool.eq_iff_iff, decide_eq_true_iff, FpNum.value_norm_neg_iff, and_iff_left h]

theorem operandClass_norm_ne_zero {f : Fmt} {env : FpEnv} {x m : Nat} {neg : Bool} {e : Int}
    (h : operandClass f env x = .norm neg m e) : m ≠ 0 := by
  have hclass : classify f env.dn x = .norm neg m e := by
    unfold operandClass at h
    split at h
    · split at h <;> contradiction
    · split at h <;> contradiction
    · exact h
  obtain ⟨-, hlow, -⟩ := classify_eq_norm hclass
  exact ((Nat.two_pow_pos _).trans_le hlow).ne'

/-- An instruction of the precision in force (R506). -/
theorem State.withPrecision_same {s : State} {pr : Bool} (hpr : s.fpscr.getLsbD 19 = pr) (r : Res) :
    s.withPrecision pr r = r := if_pos hpr

/-- An instruction of one precision, in that precision with the FPU running (R506). -/
theorem State.withFpu_precision {s : State} {pr : Bool} (hf : s.fpuReady = true)
    (hpr : s.fpscr.getLsbD 19 = pr) {r : Res} : s.withFpu 2 (s.withPrecision pr r) = r := by
  rw [State.withFpu_ready hf, State.withPrecision_same hpr]

theorem fpMac_not_zero_inf {C B : FpNum}
    (hz : ¬((C.isZero = true ∧ B.isInf = true) ∨ (C.isInf = true ∧ B.isZero = true))) :
    ¬((C.isZero && B.isInf) || (C.isInf && B.isZero)) = true := by simpa using hz

section Mac

variable {env : FpEnv} {c b a : Nat} {C B A : FpNum} (hC : operandClass .single env c = C)
  (hB : operandClass .single env b = B) (hA : operandClass .single env a = A)
include hC hB hA

/-- Line 1: a signalling NaN. -/
theorem fpMac_snan (h : C = .snan ∨ B = .snan ∨ A = .snan) : fpMac env c b a = .invalid .single env := by
  simp only [fpMac, hC, hB, hA]
  exact if_pos h

variable (hs : ¬(C = .snan ∨ B = .snan ∨ A = .snan))
include hs

/-- Line 2: a zero times an infinity. -/
theorem fpMac_zero_inf (h : (C.isZero = true ∧ B.isInf = true) ∨ (C.isInf = true ∧ B.isZero = true)) :
    fpMac env c b a = .invalid .single env := by
  simp only [fpMac, hC, hB, hA, if_neg hs]
  exact if_pos (by simpa using h)

variable (hz : ¬((C.isZero = true ∧ B.isInf = true) ∨ (C.isInf = true ∧ B.isZero = true)))
include hz

/-- Line 3: a quiet NaN as a factor. -/
theorem fpMac_factor_qnan (h : C = .qnan ∨ B = .qnan) : fpMac env c b a = .exact Fmt.single.qnan := by
  simp only [fpMac, hC, hB, hA, if_neg hs, if_neg (fpMac_not_zero_inf hz)]
  exact if_pos h

variable (hC0 : C ≠ .qnan) (hB0 : B ≠ .qnan) (hCd : C.isDenorm = false) (hBd : B.isDenorm = false)
include hC0 hB0 hCd hBd

/-- Line 4: an infinite product. -/
theorem fpMac_inf {p : Bool} (hp : p = (Fmt.single.isNeg c ^^ Fmt.single.isNeg b))
    (h : C.isInf = true ∨ B.isInf = true) :
    (A = .qnan → fpMac env c b a = .exact Fmt.single.qnan) ∧
    (∀ sn, A = .inf sn → fpMac env c b a =
      if sn = p then .exact (Fmt.single.infinity p) else .invalid .single env) ∧
    (A ≠ .qnan → A.isInf = false → fpMac env c b a = .exact (Fmt.single.infinity p)) := by
  have hq : ¬(C = .qnan ∨ B = .qnan) := not_or.mpr ⟨hC0, hB0⟩
  have hd : ¬(C.isDenorm || B.isDenorm) = true := by simp [hCd, hBd]
  have hinf : (C.isInf || B.isInf) = true := by simpa using h
  simp only [fpMac, hC, hB, hA, if_neg hs, if_neg (fpMac_not_zero_inf hz), if_neg hq, if_neg hd,
    if_pos hinf, ← hp]
  clear hA hs
  refine ⟨?_, ?_, fun hA hA0 => ?_⟩
  · rintro rfl; rfl
  · rintro sn rfl; rfl
  · cases A <;> first | rfl | contradiction

/-- Lines 5 to 8: a finite product. -/
theorem fpMac_finite {p : Bool} (hp : p = (Fmt.single.isNeg c ^^ Fmt.single.isNeg b)) (hCi : C.isInf = false)
    (hBi : B.isInf = false) (hAd : A.isDenorm = false) :
    (A = .qnan → fpMac env c b a = .exact Fmt.single.qnan) ∧
    (∀ sn, A = .inf sn → fpMac env c b a = .exact a) ∧
    (C.isZero = true ∨ B.isZero = true → ∀ sn, A = .zero sn →
      fpMac env c b a = .exact (Fmt.single.zero (p && sn))) ∧
    (C.isZero = true ∨ B.isZero = true → ∀ sn m e, A = .norm sn m e → fpMac env c b a = .exact a) ∧
    (C.isZero = false → B.isZero = false → A.isInf = false → A ≠ .qnan → ∃ x : Exact,
      x.standsFor .single |((C.value * B.value + A.value : ℚ) : ℝ)| ∧
      x.neg = decide (C.value * B.value + A.value < 0) ∧
      fpMac env c b a = finish .single env.toZero env.enOUI x) := by
  have hq : ¬(C = .qnan ∨ B = .qnan) := not_or.mpr ⟨hC0, hB0⟩
  have hd : ¬(C.isDenorm || B.isDenorm) = true := by simp [hCd, hBd]
  have hinf : ¬(C.isInf || B.isInf) = true := by simp [hCi, hBi]
  have hguard := fpMac_not_zero_inf hz
  obtain ⟨hCs, hBs, hAs⟩ : C ≠ .snan ∧ B ≠ .snan ∧ A ≠ .snan := by simpa only [not_or] using hs
  have hCm {n m e} (h : C = .norm n m e) : m ≠ 0 := operandClass_norm_ne_zero (hC.trans h)
  have hBm {n m e} (h : B = .norm n m e) : m ≠ 0 := operandClass_norm_ne_zero (hB.trans h)
  simp only [fpMac, hC, hB, hA, if_neg hs, if_neg hguard, if_neg hq, if_neg hd, if_neg hinf, ← hp]
  clear hA hB hC hs hz hguard hq hd hinf
  have hCfinite := FpNum.zero_or_norm hCs hC0 hCi hCd
  have hBfinite := FpNum.zero_or_norm hBs hB0 hBi hBd
  refine ⟨?qnan, ?inf, ?zero, ?norm, fun hC hB hA hA0 => ?computed⟩
  case computed =>
    obtain ⟨n1, rfl⟩ | ⟨n1, m1, e1, rfl⟩ := hCfinite
    · contradiction
    obtain ⟨n2, rfl⟩ | ⟨n2, m2, e2, rfl⟩ := hBfinite
    · contradiction
    rw [← exactMul_signed]
    obtain ⟨n3, rfl⟩ | ⟨n3, m3, e3, rfl⟩ := FpNum.zero_or_norm hAs hA0 hA hAd
    · have hsum : (exactMul n1 m1 e1 n2 m2 e2).signed + (FpNum.zero n3).value = (exactMul n1 m1 e1 n2 m2 e2).signed :=
        add_zero _
      rw [hsum]
      exact ⟨_, Exact.standsFor_signed rfl .single, Exact.neg_eq_decide (Nat.mul_ne_zero (hCm rfl) (hBm rfl)), rfl⟩
    · refine ⟨_, ?_, exactAdd_neg _ n3 _ m3 _ e3, rfl⟩
      rw [Exact.signed, ← exactAdd_signed]
      exact Exact.standsFor_signed rfl .single
  case zero =>
    rintro hzero sn rfl
    obtain ⟨n1, rfl⟩ | ⟨n1, m1, e1, rfl⟩ := hCfinite <;> obtain ⟨n2, rfl⟩ | ⟨n2, m2, e2, rfl⟩ := hBfinite
    case inr.inr => simp [FpNum.isZero] at hzero
    all_goals rfl
  case norm =>
    rintro hzero sn m e rfl
    obtain ⟨n1, rfl⟩ | ⟨n1, m1, e1, rfl⟩ := hCfinite <;> obtain ⟨n2, rfl⟩ | ⟨n2, m2, e2, rfl⟩ := hBfinite
    case inr.inr => simp [FpNum.isZero] at hzero
    all_goals rfl
  case qnan =>
    rintro rfl
    rfl
  case inf =>
    rintro sn rfl
    rfl

end Mac

/-- Settles O32: the lines of the table in their order. -/
theorem fmac_table : Obligations.fmac_table := by
  unfold Obligations.fmac_table
  refine ⟨fun m n s => ⟨rfl, fun hf hpr => State.withFpu_precision hf hpr⟩,
    fun env c b a C B A p hdn hq hC hB hA hp => ?_⟩
  have hCd := FpNum.isDenorm_eq_false (A := C) (hC ▸ classify_ne_denorm .single c)
  have hBd := FpNum.isDenorm_eq_false (A := B) (hB ▸ classify_ne_denorm .single b)
  have hAd := FpNum.isDenorm_eq_false (A := A) (hA ▸ classify_ne_denorm .single a)
  replace hC := operandClass_of_classify hdn hq hC
  replace hB := operandClass_of_classify hdn hq hB
  replace hA := operandClass_of_classify hdn hq hA
  refine ⟨fpMac_snan hC hB hA, fun h1 h2 h3 => ?_⟩
  have hs : ¬(C = .snan ∨ B = .snan ∨ A = .snan) := by simp only [not_or]; exact ⟨h1, h2, h3⟩
  exact ⟨fpMac_zero_inf hC hB hA hs, fun hz => ⟨fpMac_factor_qnan hC hB hA hs hz, fun hC0 hB0 =>
    ⟨fpMac_inf hC hB hA hs hz hC0 hB0 hCd hBd hp, fun hCi hBi =>
      fpMac_finite hC hB hA hs hz hC0 hB0 hCd hBd hp hCi hBi hAd⟩⟩⟩

end Sys2Proof.Machine

/-! ### The integer square root and FSQRT (R536) -/

namespace Sys2Proof.Machine

open Sys2Proof

/-- The loop keeps the root between `r` and `r + 2^k`. -/
theorem isqrtLoop_spec {n k r : Nat} (hlow : r * r ≤ n) (hhigh : n < (r + 2 ^ k) * (r + 2 ^ k)) :
    isqrtLoop n k r * isqrtLoop n k r ≤ n ∧ n < (isqrtLoop n k r + 1) * (isqrtLoop n k r + 1) := by
  induction k generalizing r with
  | zero => exact ⟨hlow, hhigh⟩
  | succ k ih =>
    rw [pow_succ'] at hhigh
    rw [isqrtLoop]
    split
    · next hbit => exact ih hbit (by rwa [add_assoc, ← two_mul])
    · next hbit => exact ih hlow (not_le.mp hbit)

theorem isqrt_spec {n : Nat} (h : n < 2 ^ 192) : isqrt n * isqrt n ≤ n ∧ n < (isqrt n + 1) * (isqrt n + 1) :=
  isqrtLoop_spec (Nat.zero_le n) (by rw [zero_add, ← pow_add]; exact h)

/-- The integer square root is the real one but for a part of its last bit, which is there when `n` is no square. -/
theorem sqrt_eq_isqrt_add {n : Nat} (h : n < 2 ^ 192) : ∃ δ : ℝ, 0 ≤ δ ∧ δ < 1 ∧ Real.sqrt n = isqrt n + δ ∧
    (isqrt n * isqrt n ≠ n ↔ δ ≠ 0) := by
  obtain ⟨hlow, hhigh⟩ := isqrt_spec h
  have hlowR : (isqrt n : ℝ) ≤ Real.sqrt n := Real.le_sqrt_of_sq_le (by rw [sq]; exact_mod_cast hlow)
  have hhighR : Real.sqrt n < isqrt n + 1 := (Real.sqrt_lt' (by positivity)).mpr (by rw [sq]; exact_mod_cast hhigh)
  refine ⟨Real.sqrt n - isqrt n, by linarith, by linarith, by ring, ?_⟩
  rw [Ne, Ne, not_iff_not, sub_eq_zero, Real.sqrt_eq_iff_mul_self_eq (Nat.cast_nonneg n) (Nat.cast_nonneg _)]
  exact_mod_cast eq_comm

/-- An even exponent below an odd one, its magnitude doubled. -/
theorem even_exponent (m : Nat) (e : Int) :
    (m : ℝ) * 2 ^ e =
      ((if e % 2 = 1 then 2 * m else m : Nat) : ℝ) * (2 ^ ((if e % 2 = 1 then e - 1 else e) / 2)) ^ 2 := by
  rw [← zpow_natCast, ← zpow_mul]
  split
  · next hodd =>
    rw [show (e - 1) / 2 * ((2 : Nat) : Int) = e - 1 by omega, zpow_sub_one₀ two_ne_zero]
    push_cast
    ring
  · next heven => rw [show e / 2 * ((2 : Nat) : Int) = e by omega]

/-- The square root of a positive normal number, with what its last bit drops (R509). -/
theorem exactSqrt_standsFor {f : Fmt} (hf : f = .single ∨ f = .double) {m : Nat} {e : Int} (hlow : 2 ^ f.fracBits ≤ m)
    (hhigh : m < 2 ^ (f.fracBits + 1)) :
    (exactSqrt f m e).standsFor f (Real.sqrt (((FpNum.norm false m e).value : ℚ) : ℝ)) := by
  obtain ⟨k, hk⟩ : ∃ k, k = f.precision + 2 := ⟨_, rfl⟩
  obtain ⟨m', hm'⟩ : ∃ m', m' = if e % 2 = 1 then 2 * m else m := ⟨_, rfl⟩
  obtain ⟨e', he'⟩ : ∃ e', e' = if e % 2 = 1 then e - 1 else e := ⟨_, rfl⟩
  have hexact : exactSqrt f m e = ⟨false, isqrt (m' * 2 ^ (2 * k)), e' / 2 - k,
      decide (isqrt (m' * 2 ^ (2 * k)) * isqrt (m' * 2 ^ (2 * k)) ≠ m' * 2 ^ (2 * k))⟩ := by
    rw [hm', he', hk]; rfl
  have hbounds : m ≤ m' ∧ m' ≤ 2 * m := by rw [hm']; split <;> omega
  have hfrac : f.fracBits ≤ 52 := by rcases hf with rfl | rfl <;> decide
  have hsmall : m' * 2 ^ (2 * k) < 2 ^ 192 := by
    have hm2 : m' < 2 ^ (f.fracBits + 2) := by rw [pow_succ]; omega
    calc m' * 2 ^ (2 * k) < 2 ^ (f.fracBits + 2) * 2 ^ (2 * k) := Nat.mul_lt_mul_of_pos_right hm2 (Nat.two_pow_pos _)
      _ = 2 ^ (f.fracBits + 2 + 2 * k) := (pow_add ..).symm
      _ ≤ 2 ^ 192 := Nat.pow_le_pow_right two_pos (by rw [hk, Fmt.precision]; omega)
  obtain ⟨δ, h0, h1, hroot, hδ⟩ := sqrt_eq_isqrt_add hsmall
  have hvalue : Real.sqrt (((FpNum.norm false m e).value : ℚ) : ℝ) =
      Real.sqrt (m' * 2 ^ (2 * k) : Nat) * 2 ^ (e' / 2 - k) := by
    have hscale : (0 : ℝ) ≤ 2 ^ (e' / 2 - (k : Int)) := (two_zpow_pos _).le
    have hsplit : (((FpNum.norm false m e).value : ℚ) : ℝ) =
        (m' * 2 ^ (2 * k) : Nat) * (2 ^ (e' / 2 - (k : Int))) ^ 2 := by
      rw [FpNum.value_norm, if_neg Bool.false_ne_true, one_mul]
      push_cast
      rw [even_exponent, ← hm', ← he', zpow_sub₀ two_ne_zero, zpow_natCast, div_pow, ← pow_mul, mul_comm k 2]
      field_simp
    rw [hsplit, Real.sqrt_mul (Nat.cast_nonneg _), Real.sqrt_sq hscale]
  rw [hexact]
  refine Exact.standsFor_iff.mpr ⟨δ, h0, h1, by rw [hvalue, hroot], ?_, fun _ => ?_⟩
  · rw [← hδ]
    exact decide_eq_true_iff
  · obtain ⟨-, hroot⟩ := isqrt_spec hsmall
    have hbits : 2 ^ f.precision ≤ isqrt (m' * 2 ^ (2 * k)) := by
      have hpow : 2 ^ f.precision * 2 ^ f.precision ≤ m' * 2 ^ (2 * k) := by
        calc 2 ^ f.precision * 2 ^ f.precision = 2 ^ (f.precision + f.precision) := (pow_add ..).symm
          _ ≤ 2 ^ (2 * k) := Nat.pow_le_pow_right two_pos (by omega)
          _ ≤ m' * 2 ^ (2 * k) := Nat.le_mul_of_pos_left _ (by have := Nat.two_pow_pos f.fracBits; omega)
      have := Nat.mul_self_lt_mul_self_iff.mp (hpow.trans_lt hroot)
      omega
    exact (Nat.le_log2 ((Nat.two_pow_pos _).trans_le hbits).ne').mpr hbits

/-- FSQRT by the class of its operand (R536). -/
theorem fpSqrt_table {f : Fmt} {env : FpEnv} {a : Nat} {A : FpNum} (hA : operandClass f env a = A) :
    (A = .snan → fpSqrt f env a = .invalid f env) ∧ (A = .qnan → fpSqrt f env a = .exact f.qnan) ∧
    (A = .inf true → fpSqrt f env a = .invalid f env) ∧ (A = .inf false → fpSqrt f env a = .exact a) ∧
    (∀ m e, A = .norm true m e → fpSqrt f env a = .invalid f env) ∧
    (∀ neg, A = .zero neg → fpSqrt f env a = .exact (f.zero neg)) ∧
    (∀ m e, A = .norm false m e → fpSqrt f env a = finish f env.toZero env.enI (exactSqrt f m e)) := by
  simp only [fpSqrt, hA]
  clear hA
  refine ⟨?_, ?_, ?_, ?_, ?_, ?_, ?_⟩
  all_goals
    intros
    subst A
    rfl

/-! ### FCNVDS and FCNVSD (R523, R524) -/

/-- FCNVDS by the class of its operand. -/
theorem fpDoubleToSingle_table {env : FpEnv} {a : Nat} {A : FpNum} (hA : operandClass .double env a = A) :
    (A = .snan → fpDoubleToSingle env a = .invalid .single env) ∧
    (A = .qnan → fpDoubleToSingle env a = .exact 0x7FBFFFFF) ∧
    (A = .inf false → fpDoubleToSingle env a = .exact 0x7F800000) ∧
    (A = .inf true → fpDoubleToSingle env a = .exact 0xFF800000) ∧
    (∀ neg, A = .zero neg → fpDoubleToSingle env a = finish .single env.toZero env.enOUI ⟨neg, 0, 0, false⟩) ∧
    (∀ neg m e, A = .norm neg m e → ∃ x : Exact, x.standsFor .single |((A.value : ℚ) : ℝ)| ∧ x.neg = neg ∧
      fpDoubleToSingle env a = finish .single env.toZero env.enOUI x) := by
  simp only [fpDoubleToSingle, hA]
  clear hA
  refine ⟨?_, ?_, ?_, ?_, ?_, ?norm⟩
  case norm =>
    rintro neg m e rfl
    exact ⟨⟨neg, m, e, false⟩, Exact.standsFor_signed rfl .single, rfl, rfl⟩
  all_goals
    intros
    subst A
    rfl

/-- A normal single has the same number as a normal double, its exponent rebiased and its fraction widened (R524). -/
theorem encodeNormal_of_single {a m : Nat} {neg : Bool} {e : Int} (hA : classify .single true a = .norm neg m e) :
    (classify .double true (encodeNormal .double neg ⟨m, e, false⟩)).value = (FpNum.norm neg m e).value ∧
    encodeNormal .double neg ⟨m, e, false⟩ / 2 ^ 52 % 2 ^ 11 = a / 2 ^ 23 % 2 ^ 8 + 896 ∧
    encodeNormal .double neg ⟨m, e, false⟩ % 2 ^ 52 = a % 2 ^ 23 * 2 ^ 29 := by
  obtain ⟨-, hm, he, hlow, hhigh⟩ := classify_norm_fields hA
  have hfrac : a % 2 ^ 23 < 2 ^ 23 := Nat.mod_lt _ (Nat.two_pow_pos _)
  have hexp : a / 2 ^ 23 % 2 ^ 8 < 2 ^ 8 := Nat.mod_lt _ (Nat.two_pow_pos _)
  simp only [Fmt.single, show Fmt.bias ⟨8, 23⟩ = 127 from rfl] at hm he hlow hhigh
  obtain ⟨r, hr⟩ : ∃ r, r = Rounded.mk m e false := ⟨_, rfl⟩
  have hlog : Nat.log2 m = 23 := (Nat.log2_eq_iff (by omega)).mpr ⟨by omega, by omega⟩
  have hexponent : r.exponent = e + 23 := by rw [hr, Rounded.exponent, hlog]; rfl
  have hne : r.mant ≠ 0 := by rw [hr]; simp only; omega
  have hle : r.mant ≤ 2 ^ Fmt.double.precision := by
    rw [hr, show Fmt.double.precision = 53 from rfl]; simp only; omega
  obtain ⟨-, -, hvalue⟩ := Rounded.significand_spec hne hle
  have hsig : r.significand .double = m * 2 ^ 29 := by rw [hr, Rounded.significand, hlog]; rfl
  have hread := classify_encodeNormal (f := .double) (dn := true) hne hle (by decide)
    (by rw [hexponent, show Fmt.double.emin = -1022 from rfl]; omega)
    (by rw [hexponent, show Fmt.double.emax = 1023 from rfl]; omega) neg
  have hpattern := encodeNormal_eq_pattern .double neg r
  have hfieldExp : (r.exponent + Fmt.double.bias).toNat = a / 2 ^ 23 % 2 ^ 8 + 896 := by
    rw [hexponent, show Fmt.double.bias = 1023 from rfl]; omega
  have hfieldFrac : r.significand .double - 2 ^ Fmt.double.fracBits = a % 2 ^ 23 * 2 ^ 29 := by
    rw [hsig, show Fmt.double.fracBits = 52 from rfl]; omega
  rw [hfieldExp, hfieldFrac] at hpattern
  rw [← hr]
  refine ⟨?_, ?_, ?_⟩
  · rw [hread, FpNum.value_norm, mul_assoc, hvalue, hr, Rounded.value, ← mul_assoc]
    rfl
  · rw [hpattern]
    exact Fmt.pattern_exp (f := .double) (by show _ < 2 ^ 11; omega) (by show _ < 2 ^ 52; omega)
  · rw [hpattern]
    exact Fmt.pattern_frac (f := .double) (by show _ < 2 ^ 52; omega)

/-- FCNVSD by the class of its operand. -/
theorem fpSingleToDouble_table {env : FpEnv} {a : Nat} {A : FpNum} (hA : operandClass .single env a = A) :
    (A = .snan → fpSingleToDouble env a = .invalid .double env) ∧
    (A = .qnan → fpSingleToDouble env a = .exact 0x7FF7FFFFFFFFFFFF) ∧
    (∀ neg, A = .inf neg → fpSingleToDouble env a = .exact (Fmt.double.infinity neg)) ∧
    (∀ neg, A = .zero neg → fpSingleToDouble env a = .exact (Fmt.double.zero neg)) ∧
    (∀ neg m e, A = .norm neg m e → fpSingleToDouble env a = .exact (encodeNormal .double neg ⟨m, e, false⟩)) := by
  simp only [fpSingleToDouble, hA]
  clear hA
  refine ⟨?_, ?_, ?_, ?_, ?_⟩
  all_goals
    intros
    subst A
    rfl

/-- Settles O33: the three tables on the classes, with the root and the widened number of a normal operand. -/
theorem fsqrt_and_precision_conversions : Obligations.fsqrt_and_precision_conversions := by
  unfold Obligations.fsqrt_and_precision_conversions
  refine ⟨fun n s => ⟨rfl, rfl⟩, fun n s => ⟨rfl, rfl⟩, fun m n s => ⟨rfl, rfl, fun hf hpr =>
    ⟨State.withFpu_precision hf hpr, State.withFpu_precision hf hpr⟩⟩, fun f env a A hf hdn hq _ hA => ?sqrt,
    fun env a A hdn hq hA => fpDoubleToSingle_table (operandClass_of_classify hdn hq hA),
    fun env a A hdn hq hA => ?widen⟩
  case sqrt =>
    obtain ⟨hsnan, hqnan, hminus, hplus, hneg, hzero, hnorm⟩ := fpSqrt_table (operandClass_of_classify hdn hq hA)
    refine ⟨hsnan, hqnan, hminus, hplus, hneg, hzero, ?_⟩
    rintro m e rfl
    obtain ⟨-, hlow, hhigh⟩ := classify_eq_norm hA.symm
    exact ⟨_, exactSqrt_standsFor hf hlow hhigh, rfl, hnorm m e rfl⟩
  case widen =>
    obtain ⟨hsnan, hqnan, hinf, hzero, hnorm⟩ := fpSingleToDouble_table (operandClass_of_classify hdn hq hA)
    refine ⟨hsnan, hqnan, hinf, hzero, ?_⟩
    rintro neg m e rfl
    exact ⟨_, hnorm neg m e rfl, encodeNormal_of_single hA.symm⟩

end Sys2Proof.Machine

/-! ### Comparisons (R520 to R522) -/

namespace Sys2Proof.Machine

open Sys2Proof

/-- The number of a finite class, as `compareExact` takes it. -/
theorem FpNum.value_finite (A : FpNum) : (FpNum.norm A.finite.1 A.finite.2.1 A.finite.2.2).value = A.value := by
  cases A with
  | norm neg m e => rfl
  | _ => simp [FpNum.finite, FpNum.value]

theorem Exact.mant_eq_zero_iff {x : Exact} : x.mant = 0 ↔ x.signed = 0 := FpNum.value_norm_eq_zero_iff.symm

theorem compareExact_eq (n1 : Bool) (m1 : Nat) (e1 : Int) (n2 : Bool) (m2 : Nat) (e2 : Int) :
    compareExact n1 m1 e1 n2 m2 e2 =
      if (FpNum.norm n1 m1 e1).value = (FpNum.norm n2 m2 e2).value then .eq
      else if (FpNum.norm n2 m2 e2).value < (FpNum.norm n1 m1 e1).value then .gt else .lt := by
  have hflip : (FpNum.norm (!n2) m2 e2).value = -(FpNum.norm n2 m2 e2).value := FpNum.value_negated (.norm n2 m2 e2)
  have hzero : (exactAdd n1 m1 e1 (!n2) m2 e2).mant = 0 ↔
      (FpNum.norm n1 m1 e1).value = (FpNum.norm n2 m2 e2).value := by
    rw [Exact.mant_eq_zero_iff, exactAdd_signed, hflip, ← sub_eq_add_neg, sub_eq_zero]
  have hneg : (exactAdd n1 m1 e1 (!n2) m2 e2).neg = true ↔
      (FpNum.norm n1 m1 e1).value < (FpNum.norm n2 m2 e2).value := by
    rw [exactAdd_neg, decide_eq_true_iff, hflip, ← sub_eq_add_neg, sub_neg]
  simp only [compareExact, hzero, hneg]
  generalize (FpNum.norm n1 m1 e1).value = v1, (FpNum.norm n2 m2 e2).value = v2
  rcases lt_trichotomy v1 v2 with h | h | h
  · rw [if_neg h.ne, if_pos h, if_neg h.ne, if_neg h.not_gt]
  · rw [if_pos h, if_pos h]
  · rw [if_neg h.ne', if_neg h.not_gt, if_neg h.ne', if_pos h]

/-- The relation by the classes of the operands (R520). -/
theorem fpCompare_table {f : Fmt} {env : FpEnv} {a b : Nat} {A B : FpNum} (hA : operandClass f env a = A)
    (hB : operandClass f env b = B) :
    (A = .snan ∨ B = .snan → fpCompare f env a b = .invalid) ∧
    (A ≠ .snan → B ≠ .snan → A = .qnan ∨ B = .qnan → fpCompare f env a b = .unordered) ∧
    (A.isNan = false → B.isNan = false → A.isInf = false → B.isInf = false →
      fpCompare f env a b = if A.value = B.value then .eq else if B.value < A.value then .gt else .lt) ∧
    (∀ n1, A = .inf n1 → B.isNan = false → fpCompare f env a b =
      if B = .inf n1 then .eq else if n1 then .lt else .gt) ∧
    (∀ n2, B = .inf n2 → A.isNan = false → fpCompare f env a b =
      if A = .inf n2 then .eq else if n2 then .gt else .lt) := by
  simp only [fpCompare, hA, hB]
  clear hA hB
  refine ⟨fun h => if_pos h, fun h1 h2 h => ?_, fun hA hB hA0 hB0 => ?finite, ?left, ?right⟩
  · rw [if_neg (not_or.mpr ⟨h1, h2⟩), if_pos h]
  case finite =>
    rw [← FpNum.value_finite A, ← FpNum.value_finite B, ← compareExact_eq]
    cases A <;> cases B <;> first | contradiction | rfl
  case left =>
    rintro n1 rfl hB
    cases B with
    | inf n2 => cases n1 <;> cases n2 <;> rfl
    | snan | qnan => contradiction
    | _ => rfl
  case right =>
    rintro n2 rfl hA
    cases A with
    | inf n1 => cases n1 <;> cases n2 <;> rfl
    | snan | qnan => contradiction
    | _ => rfl

section Compare

variable {s : State} (hf : s.fpuReady = true) (hh : s.held = false)
include hf hh

/-- A relation that raises nothing goes to T (R521, R522). -/
theorem State.fpCompareT_quiet (rel want : FpRel) :
    s.fpCompareT rel want false = .next (((s.fpRaise 0).setT (rel == want)).after 2) :=
  State.withFpu_done (t := (s.fpRaise 0).setT (rel == want)) hf hh 2

/-- A relation that raises V clears T (R521, R522). -/
theorem State.fpCompareT_invalid (rel want : FpRel) (hv : s.fpscr.getLsbD 11 = false) :
    s.fpCompareT rel want true = .next (((s.fpRaise 0x00010040).setT false).after 2) := by
  have henv : s.fpEnv.enV = false := hv
  simp only [State.fpCompareT, if_true, henv, Bool.false_eq_true, if_false]
  exact State.withFpu_done (t := (s.fpRaise raiseV).setT false) hf hh 2

/-- With Enable.V it traps after that (R738). -/
theorem State.fpCompareT_trap (rel want : FpRel) (hv : s.fpscr.getLsbD 11 = true) :
    s.fpCompareT rel want true = .next ((((s.fpRaise 0x00010040).setT false).after 2).raise .fpu
      (((s.fpRaise 0x00010040).setT false).after 2).pc) := by
  have henv : s.fpEnv.enV = true := hv
  have hheld : ((s.fpRaise raiseV).setT false).held = false := hh
  simp only [State.fpCompareT, if_true, henv, State.withFpu_ready hf, State.fpuTrap, State.complete_after hheld]
  rfl

end Compare

/-! ### FLOAT (R530) -/

theorem exactInt_signed (k : Int) : (exactInt k).signed = k := by
  rw [Exact.signed, exactInt, FpNum.value_norm, zpow_zero, mul_one, sign_mul_natAbs]

theorem exactInt_standsFor (k : Int) (f : Fmt) : (exactInt k).standsFor f |(k : ℝ)| := by
  have h := Exact.standsFor_signed (x := exactInt k) rfl f
  rwa [exactInt_signed, Rat.cast_intCast] at h

theorem encodeNormal_lt {f : Fmt} {r : Rounded} (hne : r.mant ≠ 0) (hle : r.mant ≤ 2 ^ f.precision)
    (hf : 0 < f.expBits) (hmin : f.emin ≤ r.exponent) (hmax : r.exponent ≤ f.emax) (neg : Bool) :
    encodeNormal f neg r < 2 * f.signWeight := by
  obtain ⟨-, hhigh, -⟩ := Rounded.significand_spec hne hle
  have htop := Fmt.two_bias hf
  rw [pow_succ] at hhigh
  simp only [Fmt.emin, Fmt.emax] at hmin hmax
  rw [encodeNormal_eq_pattern]
  exact Fmt.pattern_lt (by omega) (by omega)

/-- A double has room for every bit of a 32-bit integer. -/
theorem roundExact_exactInt {k : Int} (hk : k ≠ 0) (hsmall : k.natAbs < 2 ^ 32) (toZero : Bool) :
    (roundExact .double toZero (exactInt k)).inexact = false ∧
    (roundExact .double toZero (exactInt k)).value = k.natAbs ∧
    (roundExact .double toZero (exactInt k)).mant ≤ 2 ^ Fmt.double.precision := by
  have hlog : Nat.log2 k.natAbs < 32 := (Nat.log2_lt (Int.natAbs_ne_zero.mpr hk)).mpr hsmall
  obtain ⟨e, he⟩ : ∃ e : Int, e = (exactInt k).exp + Nat.log2 (exactInt k).mant := ⟨_, rfl⟩
  have he' : e = Nat.log2 k.natAbs := he.trans (zero_add _)
  have hbit : Fmt.double.lastBit e ≤ (exactInt k).exp := by
    simp only [Fmt.lastBit, show Fmt.double.emin = -1022 from rfl, show Fmt.double.precision = 53 from rfl, exactInt]
    omega
  have hround := roundExact_of_le he.symm hbit toZero
  have hpos : (0 : ℝ) < |(k : ℝ)| := abs_pos.mpr (Int.cast_ne_zero.mpr hk)
  obtain ⟨b, hb⟩ := exists_mem_Ico_zpow hpos one_lt_two
  refine ⟨by rw [hround]; rfl, ?_, roundExact_mant_le hpos (exactInt_standsFor k .double) hb toZero⟩
  rw [hround, Rounded.value, Nat.cast_mul, mul_assoc, ← two_zpow_eq_mul hbit, exactInt, zpow_zero, mul_one]

/-- The exponent of a rounded number that is a positive integer. -/
theorem Rounded.exponent_of_natCast {r : Rounded} {n w : Nat} (hvalue : r.value = n) (hn : 0 < n) (hw : n < 2 ^ w) :
    r.mant ≠ 0 ∧ 0 ≤ r.exponent ∧ r.exponent < w := by
  have hvalueR : (r.value : ℝ) = n := by rw [hvalue, Rat.cast_natCast]
  have hone : (1 : ℝ) ≤ n := by exact_mod_cast hn
  have hwR : (n : ℝ) < 2 ^ (w : Int) := by rw [zpow_natCast]; exact_mod_cast hw
  have hne := Rounded.mant_ne_zero (hvalueR.symm ▸ zero_lt_one.trans_le hone)
  obtain ⟨hlow, hhigh⟩ := Rounded.binade hne
  rw [hvalueR] at hlow hhigh
  have hmin : 0 < r.exponent + 1 := two_zpow_lt_iff.mp (by rw [zpow_zero]; exact hone.trans_lt hhigh)
  exact ⟨hne, by omega, two_zpow_lt_iff.mp (hlow.trans_lt hwR)⟩

/-- A 32-bit integer other than 0 is a normal double, exactly. -/
theorem fpFloatDouble_exact (env : FpEnv) {k : Int} (hk : k ≠ 0) (hsmall : k.natAbs < 2 ^ 32) :
    ∃ r, fpFloatDouble env k = .exact r ∧ r < 2 ^ 64 ∧ (classify .double true r).value = k := by
  obtain ⟨hexact, hvalue, hle⟩ := roundExact_exactInt hk hsmall env.toZero
  obtain ⟨hne, hmin, hmax⟩ := Rounded.exponent_of_natCast hvalue (Int.natAbs_pos.mpr hk) hsmall
  have hemin := (show Fmt.double.emin ≤ 0 by decide).trans hmin
  have hemax := hmax.le.trans (show _ ≤ Fmt.double.emax by decide)
  have hfinish := finish_of_value (finishValue_normal hne hemin hemax) false
  obtain ⟨-, -, hsig⟩ := Rounded.significand_spec hne hle
  refine ⟨_, ?_, encodeNormal_lt hne hle (by decide) hemin hemax (exactInt k).neg, ?_⟩
  · rw [fpFloatDouble, hfinish, hexact]
    rfl
  · rw [classify_encodeNormal hne hle (by decide) hemin hemax, FpNum.value_norm, mul_assoc, hsig, hvalue]
    exact sign_mul_natAbs k

/-- The integer 0 is the double +0. -/
theorem fpFloatDouble_zero (env : FpEnv) : fpFloatDouble env 0 = .exact 0 := finish_zero rfl rfl false

/-! ### FTRC (R531) -/

/-- The whole part of a magnitude. -/
theorem trunc_bounds (m : Nat) (e : Int) (n : Nat)
    (hn : n = if 0 ≤ e then m * 2 ^ e.toNat else m / 2 ^ (-e).toNat) :
    (n : ℚ) ≤ m * 2 ^ e ∧ (m * 2 ^ e : ℚ) < n + 1 := by
  split at hn
  · next he =>
    have hpow : (2 : ℚ) ^ e = 2 ^ e.toNat := by rw [← zpow_natCast, Int.toNat_of_nonneg he]
    rw [hn, hpow]
    push_cast
    exact ⟨le_rfl, lt_add_one _⟩
  · next he =>
    have hpos : (0 : ℚ) < (2 ^ (-e).toNat : Nat) := by positivity
    have hpow : (2 : ℚ) ^ e = ((2 ^ (-e).toNat : Nat) : ℚ)⁻¹ := by
      rw [Nat.cast_pow, Nat.cast_ofNat, ← zpow_natCast, Int.toNat_of_nonneg (by omega), zpow_neg, inv_inv]
    rw [hn, hpow, ← div_eq_mul_inv, le_div_iff₀ hpos, div_lt_iff₀ hpos]
    exact ⟨by exact_mod_cast Nat.div_mul_le_self m _,
      by exact_mod_cast Nat.lt_mul_of_div_lt (Nat.lt_succ_self _) (Nat.two_pow_pos _)⟩

/-- A class truncates its number toward zero. -/
theorem FpNum.truncates_trunc (A : FpNum) : truncates A.trunc A.value := by
  cases A with
  | norm neg m e =>
    obtain ⟨n, hn⟩ : ∃ n : Nat, n = if 0 ≤ e then m * 2 ^ e.toNat else m / 2 ^ (-e).toNat := ⟨_, rfl⟩
    obtain ⟨hlow, hhigh⟩ := trunc_bounds m e n hn
    have htrunc : (FpNum.norm neg m e).trunc = if neg then -(n : Int) else n := by
      rw [hn, FpNum.trunc]
      push_cast
      rfl
    have habs : |((FpNum.norm neg m e).trunc : ℚ)| = n := by
      rw [htrunc]
      cases neg <;> simp
    refine ⟨by rwa [habs, FpNum.abs_value_norm], by rwa [habs, FpNum.abs_value_norm], ?_⟩
    rw [htrunc, FpNum.value_norm, mul_assoc]
    generalize (m : ℚ) * 2 ^ e = v at hlow hhigh
    cases neg with
    | false =>
      refine ⟨fun _ => Int.natCast_nonneg n, fun hv => ?_⟩
      rw [if_neg Bool.false_ne_true, one_mul] at hv
      have hn : n = 0 := Nat.le_zero.mp (by exact_mod_cast hlow.trans hv)
      simp [hn]
    | true =>
      refine ⟨fun hv => ?_, fun _ => Int.neg_nonpos_of_nonneg (Int.natCast_nonneg n)⟩
      rw [if_pos rfl, neg_one_mul, Left.nonneg_neg_iff] at hv
      have hn : n = 0 := Nat.le_zero.mp (by exact_mod_cast hlow.trans hv)
      simp [hn]
  | _ => simp [truncates, FpNum.trunc, FpNum.value]

/-- FTRC of a single by the thresholds of its table. -/
theorem fpTruncSingle_table (env : FpEnv) {h a : Nat} (hh : h < 2 ^ 32) (ha : a = h % 2 ^ 31) :
    (h < 2 ^ 31 → 0x7F800000 < a → fpTruncSingle env h = ftrcInvalid env true) ∧
    (h < 2 ^ 31 → 0x4EFFFFFF < a → a ≤ 0x7F800000 → fpTruncSingle env h = ftrcInvalid env false) ∧
    (2 ^ 31 ≤ h → 0x4F000000 < a → fpTruncSingle env h = ftrcInvalid env true) ∧
    ((h < 2 ^ 31 ∧ a ≤ 0x4EFFFFFF) ∨ (2 ^ 31 ≤ h ∧ a ≤ 0x4F000000) →
      fpTruncSingle env h = .exact (BitVec.ofInt 32 (classify .single true h).trunc).toNat) := by
  have hneg : Fmt.single.isNeg h = decide (2 ^ 31 ≤ h) := Fmt.isNeg_eq_decide (f := .single) hh
  have hmod : h % 0x80000000 = a := ha.symm
  simp only [fpTruncSingle, hneg, hmod, decide_eq_true_eq]
  clear ha hmod
  refine ⟨fun h1 h2 => ?_, fun h1 h2 h3 => ?_, fun h1 h2 => ?_, ?_⟩
  · rw [if_neg (by omega), if_pos h2]
  · rw [if_neg (by omega), if_neg (by omega), if_pos h2]
  · rw [if_pos h1, if_pos h2]
  · rintro (⟨h1, h2⟩ | ⟨h1, h2⟩)
    · rw [if_neg (by omega), if_neg (by omega), if_neg (by omega)]
    · rw [if_pos h1, if_neg (by omega)]

/-- FTRC of a double by the thresholds of its table. -/
theorem fpTruncDouble_table (env : FpEnv) {h a : Nat} (hh : h < 2 ^ 64) (ha : a = h % 2 ^ 63) :
    (h < 2 ^ 63 → 0x7FF0000000000000 < a → fpTruncDouble env h = ftrcInvalid env true) ∧
    (h < 2 ^ 63 → 0x41E0000000000000 ≤ a → a ≤ 0x7FF0000000000000 → fpTruncDouble env h = ftrcInvalid env false) ∧
    (2 ^ 63 ≤ h → 0x41E0000000200000 ≤ a → fpTruncDouble env h = ftrcInvalid env true) ∧
    ((h < 2 ^ 63 ∧ a < 0x41E0000000000000) ∨ (2 ^ 63 ≤ h ∧ a < 0x41E0000000200000) →
      fpTruncDouble env h = .exact (BitVec.ofInt 32 (classify .double true h).trunc).toNat) := by
  have hneg : Fmt.double.isNeg h = decide (2 ^ 63 ≤ h) := Fmt.isNeg_eq_decide (f := .double) hh
  have hmod : h % 0x8000000000000000 = a := ha.symm
  simp only [fpTruncDouble, hneg, hmod, decide_eq_true_eq]
  clear ha hmod
  refine ⟨fun h1 h2 => ?_, fun h1 h2 h3 => ?_, fun h1 h2 => ?_, ?_⟩
  · rw [if_neg (by omega), if_pos h2]
  · rw [if_neg (by omega), if_neg (by omega), if_pos h2]
  · rw [if_pos h1, if_pos h2]
  · rintro (⟨h1, h2⟩ | ⟨h1, h2⟩)
    · rw [if_neg (by omega), if_neg (by omega), if_neg (by omega)]
    · rw [if_pos h1, if_neg (by omega)]

/-- Settles O34: the relation and FTRC by their tables, T by the relation, FLOAT by the integer's exact magnitude. -/
theorem fp_compare_and_integer_conversions : Obligations.fp_compare_and_integer_conversions := by
  unfold Obligations.fp_compare_and_integer_conversions
  refine ⟨fun m n s => ⟨rfl, rfl, rfl, rfl, rfl, rfl, rfl, rfl⟩, fun f env a b A B _ hdn hq hA hB =>
    fpCompare_table (operandClass_of_classify hdn hq hA) (operandClass_of_classify hdn hq hB),
    fun s rel hf hh => ⟨fun h => ?eq, fun h1 h2 => ?gt, fun hv => ⟨?_, ?_, ?_⟩, fun hv => ⟨?_, ?_, ?_⟩⟩,
    fun n s => ⟨rfl, rfl⟩, fun n s => ⟨rfl, rfl⟩, fun env k => ⟨⟨_, exactInt_standsFor k .single, rfl, rfl⟩,
      fun hlow hhigh => ?float⟩, fun m s => ⟨rfl, rfl⟩, fun m s => ⟨rfl, rfl⟩,
    fun env h a hh ha => ?single, fun env h a hh ha => ?double, fun env neg => rfl⟩
  case eq =>
    have hrel : (rel == .invalid) = false := by simpa using h
    rw [State.fcmpEq, hrel, State.fpCompareT_quiet hf hh]
  case gt =>
    have hrel : (rel == .invalid || rel == .unordered) = false := by simpa using ⟨h1, h2⟩
    rw [State.fcmpGt, hrel, State.fpCompareT_quiet hf hh]
  case float =>
    by_cases hk : k = 0
    · subst hk
      have hzero : classify .double true 0 = .zero false := by decide
      exact ⟨0, fpFloatDouble_zero env, Nat.two_pow_pos 64, by rw [hzero]; rfl, fun _ => rfl⟩
    · obtain ⟨r, hr, hlt, hvalue⟩ := fpFloatDouble_exact env hk (by omega)
      exact ⟨r, hr, hlt, hvalue, fun h => absurd h hk⟩
  case single =>
    obtain ⟨hnan, hbig, hneg, hexact⟩ := fpTruncSingle_table env hh ha
    exact ⟨hnan, hbig, hneg, fun h => ⟨_, FpNum.truncates_trunc _, hexact h⟩⟩
  case double =>
    obtain ⟨hnan, hbig, hneg, hexact⟩ := fpTruncDouble_table env hh ha
    exact ⟨hnan, hbig, hneg, fun h => ⟨_, FpNum.truncates_trunc _, hexact h⟩⟩
  · exact State.fpCompareT_invalid hf hh _ _ hv
  · exact State.fpCompareT_invalid hf hh _ _ hv
  · exact State.fpCompareT_invalid hf hh _ _ hv
  · exact State.fpCompareT_trap hf hh _ _ hv
  · exact State.fpCompareT_trap hf hh _ _ hv
  · exact State.fpCompareT_trap hf hh _ _ hv

end Sys2Proof.Machine

/-! ### Completion: the results in the documented setting (R505, R532) -/

namespace Sys2Proof.Machine

open Sys2Proof

/-- The environment of the documented setting: DN = 1, no Enable bit, QIS without effect. -/
structure FpEnv.Documented (env : FpEnv) : Prop where
  dn : env.dn = true
  enV : env.enV = false
  enZ : env.enZ = false
  enOUI : env.enOUI = false
  enI : env.enI = false
  quietSignals : env.quietSignals = false

theorem getLsbD_of_and_eq_zero {w mask : Word} (h : w &&& mask = 0) {i : Nat} (hm : mask.getLsbD i = true) :
    w.getLsbD i = false := by
  have hbit := congrArg (BitVec.getLsbD · i) h
  simpa [BitVec.getLsbD_and, hm] using hbit

theorem State.fpPlain.ready {s : State} (h : s.fpPlain) : s.fpuReady = true := h.1
theorem State.fpPlain.quiet {s : State} (h : s.fpPlain) : s.held = false := h.2.1

theorem State.fpPlain.documented {s : State} (h : s.fpPlain) : s.fpEnv.Documented := by
  obtain ⟨-, -, hdn, henable⟩ := h
  have hv : s.fpscr.getLsbD 11 = false := getLsbD_of_and_eq_zero henable (by decide)
  have hz : s.fpscr.getLsbD 10 = false := getLsbD_of_and_eq_zero henable (by decide)
  have ho : s.fpscr.getLsbD 9 = false := getLsbD_of_and_eq_zero henable (by decide)
  have hu : s.fpscr.getLsbD 8 = false := getLsbD_of_and_eq_zero henable (by decide)
  have hi : s.fpscr.getLsbD 7 = false := getLsbD_of_and_eq_zero henable (by decide)
  constructor
  · exact hdn
  · exact hv
  · exact hz
  · simp only [State.fpEnv, ho, hu, hi, Bool.or_false]
  · exact hi
  · simp only [State.fpEnv, hv, Bool.and_false]

/-- A result that writes its destination: no trap, no open value. -/
def FpResult.Writes (r : FpResult) : Prop := ∃ x, r.out = .write x

theorem FpResult.exact_writes (x : Nat) : (FpResult.exact x).Writes := ⟨x, rfl⟩
theorem finish_writes (f : Fmt) (toZero : Bool) (x : Exact) {trap : Bool} (h : trap = false) :
    (finish f toZero trap x).Writes := ⟨_, by rw [finish, h]; rfl⟩

section Results

variable {env : FpEnv} (h : env.Documented)
include h

theorem FpResult.invalid_writes (f : Fmt) : (FpResult.invalid f env).Writes := ⟨_, by rw [FpResult.invalid, h.enV]; rfl⟩
theorem FpResult.divideByZero_writes (f : Fmt) (neg : Bool) : (FpResult.divideByZero f env neg).Writes :=
  ⟨_, by rw [FpResult.divideByZero, h.enZ]; rfl⟩
theorem ftrcInvalid_writes (neg : Bool) : (ftrcInvalid env neg).Writes := ⟨_, by rw [ftrcInvalid, h.enV]; rfl⟩

/-- With DN = 1 no operand is denormalized (R502). -/
theorem operandClass_ne_denorm (f : Fmt) (x : Nat) (neg : Bool) : operandClass f env x ≠ .denorm neg := by
  rw [operandClass_eq h.quietSignals, h.dn]
  exact classify_ne_denorm f x neg

theorem fpAdd_writes (f : Fmt) (a b : Nat) : (fpAdd f env a b).Writes := by
  unfold fpAdd
  repeat' split
  all_goals first
    | exact FpResult.exact_writes _ | exact FpResult.invalid_writes h _ | exact finish_writes _ _ _ h.enOUI
    | exact absurd (by assumption) (operandClass_ne_denorm h _ _ _)
theorem fpSub_writes (f : Fmt) (a b : Nat) : (fpSub f env a b).Writes := fpAdd_writes h f a (f.negate b)
theorem fpMul_writes (f : Fmt) (a b : Nat) : (fpMul f env a b).Writes := by
  unfold fpMul
  simp only
  split <;> first
    | exact FpResult.exact_writes _ | exact FpResult.invalid_writes h _ | exact finish_writes _ _ _ h.enOUI
    | exact absurd (by assumption) (operandClass_ne_denorm h _ _ _)
theorem fpDiv_writes (f : Fmt) (a b : Nat) : (fpDiv f env a b).Writes := by
  unfold fpDiv
  simp only
  split <;> first
    | exact FpResult.exact_writes _ | exact FpResult.invalid_writes h _ | exact finish_writes _ _ _ h.enOUI
    | exact FpResult.divideByZero_writes h _ _ | exact absurd (by assumption) (operandClass_ne_denorm h _ _ _)
theorem fpSqrt_writes (f : Fmt) (a : Nat) : (fpSqrt f env a).Writes := by
  unfold fpSqrt
  split <;> first
    | exact FpResult.exact_writes _ | exact FpResult.invalid_writes h _ | exact finish_writes _ _ _ h.enI
theorem fpDoubleToSingle_writes (a : Nat) : (fpDoubleToSingle env a).Writes := by
  unfold fpDoubleToSingle
  split
  · exact FpResult.invalid_writes h _
  · exact FpResult.exact_writes _
  · exact FpResult.exact_writes _
  · exact finish_writes _ _ _ h.enOUI
  · exact finish_writes _ _ _ h.enOUI
  · next hdenorm => exact absurd hdenorm (operandClass_ne_denorm h _ _ _)
theorem fpSingleToDouble_writes (a : Nat) : (fpSingleToDouble env a).Writes := by
  unfold fpSingleToDouble
  split
  · exact FpResult.invalid_writes h _
  all_goals exact FpResult.exact_writes _
theorem fpFloatSingle_writes (k : Int) : (fpFloatSingle env k).Writes := finish_writes _ _ _ h.enI
omit h in
theorem fpFloatDouble_writes (env : FpEnv) (k : Int) : (fpFloatDouble env k).Writes := finish_writes _ _ _ rfl
theorem fpTruncSingle_writes (a : Nat) : (fpTruncSingle env a).Writes := by
  unfold fpTruncSingle
  simp only
  repeat' split
  all_goals first | exact FpResult.exact_writes _ | exact ftrcInvalid_writes h _
theorem fpTruncDouble_writes (a : Nat) : (fpTruncDouble env a).Writes := by
  unfold fpTruncDouble
  simp only
  repeat' split
  all_goals first | exact FpResult.exact_writes _ | exact ftrcInvalid_writes h _

/-- Every line of FMAC's table but those of a denormalized operand. -/
theorem fpMac_writes (c b a : Nat) : (fpMac env c b a).Writes := by
  obtain ⟨C, hC⟩ : ∃ C, operandClass .single env c = C := ⟨_, rfl⟩
  obtain ⟨B, hB⟩ : ∃ B, operandClass .single env b = B := ⟨_, rfl⟩
  obtain ⟨A, hA⟩ : ∃ A, operandClass .single env a = A := ⟨_, rfl⟩
  have hCd := FpNum.isDenorm_eq_false (hC ▸ operandClass_ne_denorm h .single c)
  have hBd := FpNum.isDenorm_eq_false (hB ▸ operandClass_ne_denorm h .single b)
  have hAd := FpNum.isDenorm_eq_false (hA ▸ operandClass_ne_denorm h .single a)
  by_cases hs : C = .snan ∨ B = .snan ∨ A = .snan
  · exact fpMac_snan hC hB hA hs ▸ FpResult.invalid_writes h _
  by_cases hz : (C.isZero = true ∧ B.isInf = true) ∨ (C.isInf = true ∧ B.isZero = true)
  · exact fpMac_zero_inf hC hB hA hs hz ▸ FpResult.invalid_writes h _
  by_cases hq : C = .qnan ∨ B = .qnan
  · exact fpMac_factor_qnan hC hB hA hs hz hq ▸ FpResult.exact_writes _
  obtain ⟨hC0, hB0⟩ := not_or.mp hq
  by_cases hi : C.isInf = true ∨ B.isInf = true
  · obtain ⟨hqnan, hinf, hother⟩ := fpMac_inf hC hB hA hs hz hC0 hB0 hCd hBd rfl hi
    by_cases hA0 : A = .qnan
    · exact hqnan hA0 ▸ FpResult.exact_writes _
    cases hAi : A.isInf with
    | false => exact hother hA0 hAi ▸ FpResult.exact_writes _
    | true =>
      obtain ⟨sn, hsn⟩ := FpNum.isInf_iff.mp hAi
      rw [hinf sn hsn]
      split
      · exact FpResult.exact_writes _
      · exact FpResult.invalid_writes h _
  · obtain ⟨hCi, hBi⟩ : C.isInf = false ∧ B.isInf = false := by simpa using hi
    obtain ⟨hqnan, hinf, hzero, hnorm, hcomputed⟩ := fpMac_finite hC hB hA hs hz hC0 hB0 hCd hBd rfl hCi hBi hAd
    by_cases hA0 : A = .qnan
    · exact hqnan hA0 ▸ FpResult.exact_writes _
    cases hAi : A.isInf with
    | true =>
      obtain ⟨sn, hsn⟩ := FpNum.isInf_iff.mp hAi
      exact hinf sn hsn ▸ FpResult.exact_writes _
    | false =>
      by_cases hfactor : C.isZero = true ∨ B.isZero = true
      · obtain ⟨sn, hsn⟩ | ⟨sn, m, e, hsn⟩ := FpNum.zero_or_norm (fun hsn => hs (.inr (.inr hsn))) hA0 hAi hAd
        · exact hzero hfactor sn hsn ▸ FpResult.exact_writes _
        · exact hnorm hfactor sn m e hsn ▸ FpResult.exact_writes _
      · obtain ⟨hCz, hBz⟩ : C.isZero = false ∧ B.isZero = false := by simpa using hfactor
        obtain ⟨x, -, -, hx⟩ := hcomputed hCz hBz hAi hA0
        exact hx ▸ finish_writes _ _ _ h.enOUI

end Results

/-! ### Completion: the state after an arithmetic instruction -/

section Complete

variable {s : State} (h : s.fpPlain)
include h

theorem State.fpPlain.fpToFr_plain (n : FReg) {r : FpResult} (hr : r.Writes) :
    ∃ w v, s.fpToFr n r = .next (((s.fpRaise w).setFreg n v).after 2) := by
  obtain ⟨x, hx⟩ := hr
  exact ⟨_, _, by rw [State.fpToFr, State.fpDeliver32_write hx, State.withFpu_done h.ready (by exact h.quiet)]⟩
theorem State.fpPlain.fpToDr_plain (n : DReg) {r : FpResult} (hr : r.Writes) :
    ∃ w v, s.fpToDr n r = .next (((s.fpRaise w).setDreg n v).after 2) := by
  obtain ⟨x, hx⟩ := hr
  exact ⟨_, _, by rw [State.fpToDr, State.fpDeliver64_write hx, State.withFpu_done h.ready (by exact h.quiet)]⟩
theorem State.fpPlain.fpToFpul_plain {r : FpResult} (hr : r.Writes) :
    ∃ w v, s.fpToFpul r = .next (((s.fpRaise w).setFpul v).after 2) := by
  obtain ⟨x, hx⟩ := hr
  exact ⟨_, _, by rw [State.fpToFpul, State.fpDeliver32_write hx, State.withFpu_done h.ready (by exact h.quiet)]⟩
theorem State.fpPlain.fpCompareT_plain (rel want : FpRel) (invalid : Bool) :
    ∃ w b, s.fpCompareT rel want invalid = .next (((s.fpRaise w).setT b).after 2) := by
  cases invalid with
  | false => exact ⟨_, _, State.fpCompareT_quiet h.ready h.quiet rel want⟩
  | true => exact ⟨_, _, State.fpCompareT_invalid h.ready h.quiet rel want h.documented.enV⟩

end Complete

/-- Settles O29: every line writes in the documented setting, and a write ends the instruction. -/
theorem fp_completion : Obligations.fp_completion := by
  unfold Obligations.fp_completion
  simp only [List.forall_mem_cons]
  refine ⟨fun m n s h => ?single, fun m n s h hpr => ?mac, fun m n s h => ?double, fun m n s h => ?compare,
    fun m s h => ?truncate, fun n s h hpr => ?convert⟩
  case single =>
    have hd := h.documented
    exact ⟨h.fpToFr_plain n (fpAdd_writes hd ..), h.fpToFr_plain n (fpSub_writes hd ..),
      h.fpToFr_plain n (fpMul_writes hd ..), h.fpToFr_plain n (fpDiv_writes hd ..),
      h.fpToFr_plain n (fpSqrt_writes hd ..), h.fpToFr_plain n (fpFloatSingle_writes hd _), List.forall_mem_nil _⟩
  case mac =>
    obtain ⟨w, v, hw⟩ := h.fpToFr_plain n (fpMac_writes h.documented (s.fr 0) (s.fr m) (s.fr n))
    exact ⟨w, v, (State.withFpu_precision h.ready hpr).trans hw⟩
  case double =>
    have hd := h.documented
    exact ⟨h.fpToDr_plain n (fpAdd_writes hd ..), h.fpToDr_plain n (fpSub_writes hd ..),
      h.fpToDr_plain n (fpMul_writes hd ..), h.fpToDr_plain n (fpDiv_writes hd ..),
      h.fpToDr_plain n (fpSqrt_writes hd ..), h.fpToDr_plain n (fpFloatDouble_writes _ _), List.forall_mem_nil _⟩
  case compare =>
    exact ⟨h.fpCompareT_plain .., h.fpCompareT_plain .., h.fpCompareT_plain .., h.fpCompareT_plain ..,
      List.forall_mem_nil _⟩
  case truncate =>
    exact ⟨h.fpToFpul_plain (fpTruncSingle_writes h.documented _),
      h.fpToFpul_plain (fpTruncDouble_writes h.documented _),
      List.forall_mem_nil _⟩
  case convert =>
    obtain ⟨w, v, hw⟩ := h.fpToFpul_plain (fpDoubleToSingle_writes h.documented (s.dr n))
    obtain ⟨w', v', hw'⟩ := h.fpToDr_plain n (fpSingleToDouble_writes h.documented s.fpul.toNat)
    exact ⟨⟨w, v, (State.withFpu_precision h.ready hpr).trans hw⟩,
      ⟨w', v', (State.withFpu_precision h.ready hpr).trans hw'⟩⟩

end Sys2Proof.Machine

/-! ### What the FPU instructions leave unchanged -/

namespace Sys2Proof.Machine

open Sys2Proof

section Frame

variable {s u t : State} {ks : List GReg} {fs : List FReg} {bits : Word} {xs : List Special}

theorem Confined.fpRaise (hx : .fpscr ∈ xs) (w : Word) : Confined s (s.fpRaise w) ks fs bits xs 0 0 :=
  (Confined.refl s).setSpecial hx _

/-- An instruction that ends in the `after` of a state confined to its lists. -/
theorem Confined.frame_of_next (h : Confined s u ks fs bits xs 0 0) {len : Word} {r : Res}
    (hr : r = .next (u.after len)) (ht : r = .next t) : SameBut s t ks fs bits xs ∧ SameMemory s t := by
  rw [hr, Host.Outcome.next.injEq] at ht
  rw [← ht]
  exact ⟨(h.after len).same, fun a => (h.after len).memory a fun k hk => absurd hk (Nat.not_lt_zero k)⟩

variable (h : s.fpPlain)
include h

/-- The same for one that only needs the FPU. -/
theorem Confined.frame_of_done (hu : Confined s u ks fs bits xs 0 0) (ht : s.withFpu 2 (u.done 2) = .next t) :
    SameBut s t ks fs bits xs ∧ SameMemory s t :=
  hu.frame_of_next (State.withFpu_done h.ready (hu.held.trans h.quiet) 2) ht

/-- A result into FRn. -/
theorem State.fpToFr_frame (n : FReg) {r : FpResult} (hr : r.Writes) (ht : s.fpToFr n r = .next t) :
    SameBut s t [] [n] 0 [.fpscr] ∧ SameMemory s t := by
  obtain ⟨w, v, hw⟩ := h.fpToFr_plain n hr
  exact ((Confined.fpRaise (by decide) w).setFreg (List.mem_singleton_self n) v).frame_of_next hw ht
/-- A result into DRn. -/
theorem State.fpToDr_frame (n : DReg) {r : FpResult} (hr : r.Writes) (ht : s.fpToDr n r = .next t) :
    SameBut s t [] [pairHigh n, pairLow n] 0 [.fpscr] ∧ SameMemory s t := by
  obtain ⟨w, v, hw⟩ := h.fpToDr_plain n hr
  exact ((Confined.fpRaise (by decide) w).setDreg (by simp) (by simp) v).frame_of_next hw ht
/-- A result into FPUL. -/
theorem State.fpToFpul_frame {r : FpResult} (hr : r.Writes) (ht : s.fpToFpul r = .next t) :
    SameBut s t [] [] 0 [.fpul, .fpscr] ∧ SameMemory s t := by
  obtain ⟨w, v, hw⟩ := h.fpToFpul_plain hr
  exact ((Confined.fpRaise (by decide) w).setSpecial (x := .fpul) (by decide) v).frame_of_next hw ht
/-- A comparison. -/
theorem State.fpCompareT_frame {rel want : FpRel} {invalid : Bool} (ht : s.fpCompareT rel want invalid = .next t) :
    SameBut s t [] [] 1 [.fpscr] ∧ SameMemory s t := by
  obtain ⟨w, b, hw⟩ := h.fpCompareT_plain rel want invalid
  exact ((Confined.fpRaise (by decide) w).setT (by decide) b).frame_of_next hw ht

/-- A pattern moved into FRn. -/
theorem State.setFreg_frame (n : FReg) {v : Word} (ht : s.withFpu 2 ((s.setFreg n v).done 2) = .next t) :
    SameBut s t [] [n] 0 [] ∧ SameMemory s t :=
  ((Confined.refl s).setFreg (List.mem_singleton_self n) v).frame_of_done h ht
/-- A pattern moved into DRn. -/
theorem State.setDreg_frame (n : DReg) {v : Quad} (ht : s.withFpu 2 ((s.setDreg n v).done 2) = .next t) :
    SameBut s t [] [pairHigh n, pairLow n] 0 [] ∧ SameMemory s t :=
  ((Confined.refl s).setDreg (by simp) (by simp) v).frame_of_done h ht
/-- A control or system register moved to. -/
theorem State.setSpecial_fpu_frame (x : Special) {v : Word} (ht : s.withFpu 2 ((s.setSpecial x v).done 2) = .next t) :
    SameBut s t [] [] 0 [x] ∧ SameMemory s t :=
  ((Confined.refl s).setSpecial (List.mem_singleton_self x) v).frame_of_done h ht
/-- A control or system register moved to Rn. -/
theorem State.putReg_fpu_frame (n : GReg) {v : Word} (ht : s.withFpu 2 (s.putReg 2 n v) = .next t) :
    SameBut s t [n] [] 0 [] ∧ SameMemory s t :=
  ((Confined.refl s).setReg (List.mem_singleton_self n) v).frame_of_done h ht

end Frame

/-- Settles O41: each instruction is one of the frames, in the order of the list of its precision. -/
theorem fpu_frame : Obligations.fpu_frame := by
  unfold Obligations.fpu_frame
  intro m n s t h
  have hd := h.documented
  have single {r} (hr : FpResult.Writes r) := State.fpToFr_frame (t := t) h n hr
  have double {r} (hr : FpResult.Writes r) := State.fpToDr_frame (t := t) h n hr
  have fpul {r} (hr : FpResult.Writes r) := State.fpToFpul_frame (t := t) h hr
  have compare {rel want invalid} := State.fpCompareT_frame (t := t) (rel := rel) (want := want) (invalid := invalid) h
  have freg {v} := State.setFreg_frame (t := t) (v := v) h n
  have dreg {v} := State.setDreg_frame (t := t) (v := v) h n
  have special (x : Special) {v} := State.setSpecial_fpu_frame (t := t) (v := v) h x
  have reg {v} := State.putReg_fpu_frame (t := t) (v := v) h n
  simp only [List.forall_mem_cons]
  refine ⟨fun hpr => ?_, fun hpr => ?_⟩
  · have right {r} (ht : s.withFpu 2 (s.withPrecision false r) = .next t) : s.withFpu 2 r = .next t := by
      rwa [State.withPrecision_same hpr] at ht
    have mac (ht : exec (.fmac m n) s = .next t) := single (fpMac_writes hd ..)
      ((State.withFpu_precision h.ready hpr).symm.trans ht)
    exact ⟨
      -- FADD, FSUB, FMUL, FDIV, FSQRT, FLOAT and FMAC into FRn; the first six into DRn.
      single (fpAdd_writes hd ..), single (fpSub_writes hd ..), single (fpMul_writes hd ..),
      single (fpDiv_writes hd ..), single (fpSqrt_writes hd ..), single (fpFloatSingle_writes hd _), mac,
      double (fpAdd_writes hd ..), double (fpSub_writes hd ..), double (fpMul_writes hd ..),
      double (fpDiv_writes hd ..), double (fpSqrt_writes hd ..), double (fpFloatDouble_writes ..),
      -- FCMP/EQ, FCMP/GT; FTRC.
      compare, compare, compare, compare, fpul (fpTruncSingle_writes hd _), fpul (fpTruncDouble_writes hd _),
      -- FABS, FNEG, FMOV, FSTS, FLDI0, FLDI1; FMOV of a pair.
      freg, freg, freg, freg, freg, freg, fun ht => freg (right ht), fun ht => freg (right ht), dreg,
      -- FLDS, LDS, FSCHG, STS.
      special .fpul, special .fpul, special .fpscr, fun ht => special .fpscr (right ht), reg, reg,
      List.forall_mem_nil _⟩
  · have narrow (ht : exec (.fcnvds m) s = .next t) := fpul (fpDoubleToSingle_writes hd _)
      ((State.withFpu_precision h.ready hpr).symm.trans ht)
    have widen (ht : exec (.fcnvsd n) s = .next t) := double (fpSingleToDouble_writes hd _)
      ((State.withFpu_precision h.ready hpr).symm.trans ht)
    exact ⟨
      -- FADD, FSUB, FMUL, FDIV, FSQRT and FLOAT into FRn and into DRn.
      single (fpAdd_writes hd ..), single (fpSub_writes hd ..), single (fpMul_writes hd ..),
      single (fpDiv_writes hd ..), single (fpSqrt_writes hd ..), single (fpFloatSingle_writes hd _),
      double (fpAdd_writes hd ..), double (fpSub_writes hd ..), double (fpMul_writes hd ..),
      double (fpDiv_writes hd ..), double (fpSqrt_writes hd ..), double (fpFloatDouble_writes ..),
      -- FCMP/EQ, FCMP/GT; FTRC.
      compare, compare, compare, compare, fpul (fpTruncSingle_writes hd _), fpul (fpTruncDouble_writes hd _),
      -- FABS, FNEG, FMOV, FSTS; FMOV of a pair.
      freg, freg, freg, freg, freg, freg, dreg,
      -- FLDS, LDS, STS; FCNVDS, FCNVSD.
      special .fpul, special .fpul, special .fpscr, reg, reg, narrow, widen, List.forall_mem_nil _⟩

end Sys2Proof.Machine

/-!
PROOFS of the statements of the FPU transfers (O25 to O27): moves of one longword or of a pair, and operations on
32-bit patterns.
-/

namespace Sys2Proof.Machine

open Sys2Proof

/-! ### Pairs -/

/-- The low register of a pair is the one above its even register (R40, D16). -/
theorem pairLow_eq (n : DReg) : pairLow n = (n &&& 14) + 1 := by
  revert n; decide

theorem State.dreg_eq (s : State) (n : DReg) : s.dreg n = s.freg (n &&& 14) ++ s.freg ((n &&& 14) + 1) := by
  rw [State.dreg, pairLow_eq]
  rfl

/-- A quad written to a pair: its high longword to the even register, its low one to the odd (R561). -/
theorem State.setDreg_append (s : State) (n : DReg) (a b : Word) :
    s.setDreg n (a ++ b) = (s.setFreg (n &&& 14) a).setFreg ((n &&& 14) + 1) b := by
  rw [State.setDreg, highWord_append, lowWord_append, pairLow_eq]
  rfl

theorem dispScaled_quad {w : Nat} (d : BitVec w) : dispScaled d 3 = d.setWidth 32 * 8 :=
  BitVec.shiftLeft_eq_mul_twoPow (d.setWidth 32) 3

/-! ### Accesses that are allowed, at an address given in another form -/

section Access

variable {s : State} {a ea : Word} (hea : ea = a)
include hea

theorem frInto_load32_ok (hc : s.canAccess 4 ea = true) (n : FReg) :
    frInto n (s.load32 a) = s.setFreg n (s.peek32 ea) := by
  rw [← hea, State.load32_ok hc, frInto]

theorem drInto_load64_ok (hc : s.canAccess 8 ea = true) (n : DReg) : drInto n (s.load64 a) =
    (s.setFreg (n &&& 14) (s.peek32 ea)).setFreg ((n &&& 14) + 1) (s.peek32 (ea + 4)) := by
  rw [← hea, State.load64_ok hc, drInto, State.peek64, State.setDreg_append]

theorem State.store32_freg_ok (hc : s.canAccess 4 ea = true) (m : FReg) :
    s.store32 a (s.freg m) = s.poke32 ea (s.freg m) := by
  rw [← hea, State.store32_ok hc]

theorem State.store64_dreg_ok (hc : s.canAccess 8 ea = true) (m : DReg) :
    s.store64 a (s.dreg m) = s.poke64 ea (s.freg (m &&& 14) ++ s.freg ((m &&& 14) + 1)) := by
  rw [← hea, State.store64_ok hc, State.dreg_eq]

end Access

/-! The addresses of the operands (R572, R575). -/

theorem State.indexed_eq {s : State} {n : GReg} {ea : Word} (h : ea = s.reg 0 + s.reg n) : ea = s.eaIndexed n := by
  rw [h, State.eaIndexed, BitVec.add_comm]
theorem State.dispLongword_eq {s : State} {n : GReg} {d : BitVec 12} {ea : Word}
    (h : ea = s.reg n + d.setWidth 32 * 4) : ea = s.eaDisp n d 2 := by
  rw [h, State.eaDisp, dispScaled_longword]
theorem State.dispQuad_eq {s : State} {n : GReg} {d : BitVec 12} {ea : Word}
    (h : ea = s.reg n + d.setWidth 32 * 8) : ea = s.eaDisp n d 3 := by
  rw [h, State.eaDisp, dispScaled_quad]

/-! ### The end of an FPU instruction with nothing held -/

section Answers

variable {s t u : State} (hh : s.held = false) (hf : s.fpuReady = true) (ht : t = u) (hu : u.held = s.held)
include hh hf ht hu

/-- An FPU instruction whose transfer comes to a state that raises nothing. -/
theorem State.withFpu_transfer : s.withFpu 2 (t.done 2) = .next (u.after 2) := by
  rw [State.withFpu_ready hf, State.done_stored hh ht hu]

/-- The same with an address register moved beside the transfer (R568, R570). -/
theorem State.withFpu_transfer_moved (n : GReg) {v w : Word} (hv : v = w) :
    s.withFpu 2 ((t.setReg n v).done 2) = .next ((u.setReg n w).after 2) := by
  rw [State.withFpu_ready hf, hv, State.done_stored_moved hh ht hu]

/-- The same for a four-byte instruction outside a slot (R575). -/
theorem State.withFpu_transfer_wide (hs : s.slot = .none) :
    s.withFpu 4 (s.outsideSlot 4 (t.done 4)) = .next (u.after 4) := by
  rw [State.withFpu_ready hf, State.outsideSlot_none hs, State.done_stored hh ht hu]

end Answers

/-- Settles O25: a load delivers the datum at its address, a pair the two longwords from there up. -/
theorem fmov_registers_and_loads : Obligations.fmov_registers_and_loads := by
  unfold Obligations.fmov_registers_and_loads
  refine ⟨fun m n s => ⟨rfl, fun hh hf => State.withFpu_transfer hh hf rfl rfl⟩,
    fun m n s => ⟨rfl, fun hh hf => State.withFpu_transfer hh hf ?pair rfl⟩,
    fun m n s => ⟨rfl, fun hh hf ea hea hc => State.withFpu_transfer hh hf (frInto_load32_ok hea hc n) rfl⟩,
    fun m n s => ⟨rfl, fun hh hf ea hea hc => State.withFpu_transfer hh hf (drInto_load64_ok hea hc n) rfl⟩,
    fun m n s => ⟨rfl, fun hh hf ea hea hc =>
      State.withFpu_transfer_moved hh hf (frInto_load32_ok hea hc n) rfl m rfl⟩,
    fun m n s => ⟨rfl, fun hh hf ea hea hc =>
      State.withFpu_transfer_moved hh hf (drInto_load64_ok hea hc n) rfl m rfl⟩,
    fun m n s => ⟨rfl, fun hh hf ea hea hc =>
      State.withFpu_transfer hh hf (frInto_load32_ok (State.indexed_eq hea) hc n) rfl⟩,
    fun m n s => ⟨rfl, fun hh hf ea hea hc =>
      State.withFpu_transfer hh hf (drInto_load64_ok (State.indexed_eq hea) hc n) rfl⟩,
    fun m n d s => ⟨rfl, fun hh hf hs ea hea hc =>
      State.withFpu_transfer_wide hh hf (frInto_load32_ok (State.dispLongword_eq hea) hc n) rfl hs⟩,
    fun m n d s => ⟨rfl, fun hh hf hs ea hea hc =>
      State.withFpu_transfer_wide hh hf (drInto_load64_ok (State.dispQuad_eq hea) hc n) rfl hs⟩⟩
  case pair => rw [State.dreg_eq, State.setDreg_append]

/-- Settles O26: a store writes one longword or a quad with the even register's first, and moves Rn after it where it
decrements. -/
theorem fmov_stores : Obligations.fmov_stores := by
  unfold Obligations.fmov_stores
  exact ⟨fun m n s => ⟨rfl, fun hh hf ea hea hc =>
      State.withFpu_transfer hh hf (State.store32_freg_ok hea hc m) (State.poke32_held ..)⟩,
    fun m n s => ⟨rfl, fun hh hf ea hea hc =>
      State.withFpu_transfer hh hf (State.store64_dreg_ok hea hc m) (State.poke64_held ..)⟩,
    fun m n s => ⟨rfl, fun hh hf ea hea hc =>
      State.withFpu_transfer_moved hh hf (State.store32_freg_ok hea hc m) (State.poke32_held ..) n hea.symm⟩,
    fun m n s => ⟨rfl, fun hh hf ea hea hc =>
      State.withFpu_transfer_moved hh hf (State.store64_dreg_ok hea hc m) (State.poke64_held ..) n hea.symm⟩,
    fun m n s => ⟨rfl, fun hh hf ea hea hc =>
      State.withFpu_transfer hh hf (State.store32_freg_ok (State.indexed_eq hea) hc m) (State.poke32_held ..)⟩,
    fun m n s => ⟨rfl, fun hh hf ea hea hc =>
      State.withFpu_transfer hh hf (State.store64_dreg_ok (State.indexed_eq hea) hc m) (State.poke64_held ..)⟩,
    fun m n d s => ⟨rfl, fun hh hf hs ea hea hc => State.withFpu_transfer_wide hh hf
      (State.store32_freg_ok (State.dispLongword_eq hea) hc m) (State.poke32_held ..) hs⟩,
    fun m n d s => ⟨rfl, fun hh hf hs ea hea hc => State.withFpu_transfer_wide hh hf
      (State.store64_dreg_ok (State.dispQuad_eq hea) hc m) (State.poke64_held ..) hs⟩⟩

/-- An operation that single precision alone has (R506). -/
theorem State.withFpu_single_after {s t : State} (hf : s.fpuReady = true) (hpr : s.fpscr.getLsbD 19 = false)
    (ht : t.held = false) : s.withFpu 2 (s.withPrecision false (t.done 2)) = .next (t.after 2) := by
  rw [State.withFpu_precision hf hpr, State.done_after ht]

/-- Settles O27: each writes FPUL, one register of the FPU, or SZ. -/
theorem fpu_register_operations : Obligations.fpu_register_operations := by
  unfold Obligations.fpu_register_operations
  exact ⟨fun m s => ⟨rfl, fun hh hf => State.withFpu_done (t := s.setFpul (s.freg m)) hf hh 2⟩,
    fun n s => ⟨rfl, fun hh hf => State.withFpu_done (t := s.setFreg n s.fpul) hf hh 2⟩,
    fun n s => ⟨rfl, fun hh hf hpr => State.withFpu_single_after (t := s.setFreg n 0) hf hpr hh⟩,
    fun n s => ⟨rfl, fun hh hf hpr => State.withFpu_single_after (t := s.setFreg n 0x3F800000) hf hpr hh⟩,
    fun s => ⟨rfl, fun hh hf hpr =>
      State.withFpu_single_after (t := { s with fpscr := s.fpscr ^^^ 0x00100000 }) hf hpr hh⟩,
    fun n s => ⟨rfl, fun hh hf => State.withFpu_done (t := s.setFreg n (s.freg n &&& 0x7FFFFFFF)) hf hh 2⟩,
    fun n s => ⟨rfl, fun hh hf => State.withFpu_done (t := s.setFreg n (s.freg n &&& 0x7FFFFFFF)) hf hh 2⟩,
    fun n s => ⟨rfl, fun hh hf => State.withFpu_done (t := s.setFreg n (s.freg n ^^^ 0x80000000)) hf hh 2⟩,
    fun n s => ⟨rfl, fun hh hf => State.withFpu_done (t := s.setFreg n (s.freg n ^^^ 0x80000000)) hf hh 2⟩⟩

end Sys2Proof.Machine

/-!
PROOFS of the statement of the bit tests (O18).
-/

namespace Sys2Proof.Machine

open Sys2Proof

section BitTests

variable {s : State} (hh : s.held = false) {ea : Word} (hc : s.canAccess 1 ea = true)
include hh hc

/-- A test of a byte that may be read writes T alone (R373). -/
theorem State.testByte_after {a : Word} (hea : ea = a) (f : Byte → Bool) (len : Word) :
    (s.testByte a f).done len = .next ((s.setT (f (s.peek ea))).after len) := by
  subst hea
  exact State.done_stored hh (State.testByte_ok hc f) (State.setT_held ..) len

/-- Outside a slot a bit form writes T from the bit of a byte that may be read and the old T (R601). -/
theorem State.bitToT_after {n : GReg} {d : BitVec 12} (hs : s.slot = .none) (hea : ea = s.reg n + d.setWidth 32)
    (i : BitVec 3) (f : Bool → Bool → Bool) :
    s.bitToT n i d f = .next ((s.setT (f ((s.peek ea).getLsbD i.toNat) s.t)).after 4) := by
  have haddr : ea = s.eaDisp n d 0 := by rw [hea, State.eaDisp, dispScaled_byte]
  exact (State.outsideSlot_none hs 4 _).trans (State.testByte_after hh hc haddr _ 4)

end BitTests

/-- Settles O18: each memory form is its Boolean function of the addressed bit and T; BLD reads its bit from Rn. -/
theorem bit_tests : Obligations.bit_tests := by
  unfold Obligations.bit_tests
  exact ⟨fun n i d s => ⟨rfl, fun hh hs ea hea hc => State.bitToT_after hh hc hs hea i (fun b t => b && t)⟩,
    fun n i d s => ⟨rfl, fun hh hs ea hea hc => State.bitToT_after hh hc hs hea i (fun b t => !b && t)⟩,
    fun n i d s => ⟨rfl, fun hh hs ea hea hc => State.bitToT_after hh hc hs hea i (fun b t => b || t)⟩,
    fun n i d s => ⟨rfl, fun hh hs ea hea hc => State.bitToT_after hh hc hs hea i (fun b t => !b || t)⟩,
    fun n i d s => ⟨rfl, fun hh hs ea hea hc => State.bitToT_after hh hc hs hea i (fun b t => b ^^ t)⟩,
    fun n i d s => ⟨rfl, fun hh hs ea hea hc => State.bitToT_after hh hc hs hea i (fun b _ => b)⟩,
    fun n i s => ⟨rfl, fun hh => State.done_after (s := s.setT ((s.reg n).getLsbD i.toNat)) hh 2⟩,
    fun n i d s => ⟨rfl, fun hh hs ea hea hc => State.bitToT_after hh hc hs hea i (fun b _ => !b)⟩,
    fun i s => ⟨rfl, fun hh ea hea hc => State.testByte_after hh hc hea (fun v => v &&& i == 0) 2⟩⟩

end Sys2Proof.Machine

/-!
PROOFS of the statement of the exception entry (O52): an entry whose accesses are allowed, the vector numbers, and an
entry whose pushes fault because R15 is not a multiple of four.
-/

/-! ### Where the pushes of a misaligned stack fall -/

namespace Sys2Proof.Machine

open Sys2Proof

theorem alignDown_toNat (a : Word) : (alignDown a).toNat = a.toNat / 4 * 4 := by
  have hshift : alignDown a = (a >>> 2) <<< 2 := by
    ext k hk
    simp only [alignDown]
    interval_cases k <;> simp
  rw [hshift, BitVec.toNat_shiftLeft, BitVec.toNat_ushiftRight, Nat.shiftRight_eq_div_pow, Nat.shiftLeft_eq]
  omega

/-- `t` is `s` after pushes of an entry that faulted, whatever became of control and of the error: R15 `down` lower and
open values in the `size` bytes from `first` up; nothing else differs (R727, D24). -/
structure Strayed (s t : State) (down first : Word) (size : Nat) : Prop where
  only : ∃ m c pc slot power held, t = { s.setReg 15 (s.sp - down) with
    mem := m, freeCount := c, pc := pc, slot := slot, power := power, held := held }
  memory : Memory.wf t.mem
  keep : ∀ b : Word, size ≤ (b - first).toNat → t.peek b = s.peek b

section Strayed

variable {s t u : State} {down down' first : Word} {size : Nat}

/-- What was held before plays no part. -/
theorem Strayed.served (h : Strayed { s with held := false } t down first size) : Strayed s t down first size :=
  ⟨h.only, h.memory, h.keep⟩

variable (h : Strayed s t down first size)
include h

theorem Strayed.cfg : t.cfg = s.cfg := by
  obtain ⟨_, _, _, _, _, _, ht⟩ := h.only
  rw [ht]; rfl
theorem Strayed.vbr : t.vbr = s.vbr := by
  obtain ⟨_, _, _, _, _, _, ht⟩ := h.only
  rw [ht]; rfl
theorem Strayed.sp : t.sp = s.sp - down := by
  obtain ⟨_, _, _, _, _, _, ht⟩ := h.only
  rw [ht]; exact State.reg_setReg_same _ _ _

/-- Faulting pushes after faulting pushes. -/
theorem Strayed.trans (h' : Strayed t u down' first size) : Strayed s u (down + down') first size := by
  have hsp := h.sp
  obtain ⟨_, _, _, _, _, _, ht⟩ := h.only
  obtain ⟨m, c, pc, slot, power, held, hu⟩ := h'.only
  refine ⟨⟨m, c, pc, slot, power, held, ?_⟩, h'.memory, fun b hb => (h'.keep b hb).trans (h.keep b hb)⟩
  have hdown : s.sp - down - down' = s.sp - (down + down') := by bv_omega
  rw [hu, hsp, ht, ← hdown]
  simp [State.setReg]

/-- Control at a handler is not among what they leave alone. -/
theorem Strayed.control (pc : Word) (slot : Slot) (power : Power) (held : Bool) :
    Strayed s { t with pc := pc, slot := slot, power := power, held := held } down first size := by
  obtain ⟨m, c, _, _, _, _, ht⟩ := h.only
  exact ⟨⟨m, c, pc, slot, power, held, by rw [ht]⟩, h.memory, h.keep⟩

end Strayed

/-- A faulting stack write leaves open values in the two longwords that it overlaps (R727). -/
theorem State.scramble_plain {s : State} {a : Word} (ha : alignDown a ≠ a) (hm : Memory.wf s.mem)
    (hp : s.plain (alignDown a) 8) : ∃ m c, s.scramble a = { s with mem := m, freeCount := c } ∧ Memory.wf m ∧
      ∀ b : Word, 8 ≤ (b - alignDown a).toNat → State.peek { s with mem := m } b = s.peek b := by
  obtain ⟨hlow, hhigh⟩ := State.plain_halves hp
  obtain ⟨m, hfirst, hwf, -, hkeep⟩ := State.poke32_plain s.open32 hlow hm
  obtain ⟨m', hsecond, hwf', -, hkeep'⟩ := State.poke32_plain (s := State.drawn { s with mem := m } 1)
    (State.open32 (State.drawn { s with mem := m } 1)) hhigh hwf
  refine ⟨m', s.freeCount + 1 + 1, ?_, hwf', fun b hb => ?_⟩
  · simp only [State.scramble, ha, if_false, hfirst, hsecond]
    rfl
  · exact (hkeep' b (by bv_omega)).trans (hkeep b (by omega))

section Misaligned

variable {s : State} {first : Word} {size : Nat} (hsp : s.sp.toNat % 4 ≠ 0) (hm : Memory.wf s.mem)
  (hp : s.plain first size) (hsize : (alignDown s.sp - first).toNat + 4 ≤ size)
include hsp hm hp hsize

/-- One push on a misaligned stack (R716, R727). -/
theorem State.entryPush_strayed (v : Word) (hroom : 4 ≤ (alignDown s.sp - first).toNat) :
    Strayed s (s.entryPush v) 4 first size ∧ (s.entryPush v).held = true := by
  have hdown := alignDown_toNat s.sp
  have hnext := alignDown_toNat (s.sp - 4)
  have hbad : (s.setReg 15 (s.sp - 4)).canAccess 4 (s.sp - 4) = false := by
    have hmod : ¬ (s.sp - 4).toNat % 4 = 0 := by bv_omega
    simp only [State.canAccess, beq_eq_false_iff_ne.mpr hmod, Bool.false_and]
  obtain ⟨m, c, hscramble, hwf, hkeep⟩ := State.scramble_plain (s := s.setReg 15 (s.sp - 4)) (a := s.sp - 4)
    (by bv_omega) hm ((State.plain_iff _ _ _).mpr fun a ha => (State.plain_iff _ _ _).mp hp a (by bv_omega))
  have hpush : s.entryPush v = { s.setReg 15 (s.sp - 4) with mem := m, freeCount := c, held := true } := by
    simp only [State.entryPush, hbad, hscramble]
    rfl
  rw [hpush]
  exact ⟨⟨⟨m, c, _, _, _, _, rfl⟩, hwf, fun b hb => hkeep b (by bv_omega)⟩, rfl⟩

/-- The sequence of R716 on a misaligned stack: both pushes fault, and control still goes to the handler (R727). -/
theorem State.enterOnce_strayed {e : Exc} (saved : Word) (hv : s.canAccess 4 (s.vbr + e.vector <<< 2) = true)
    (hroom : 8 ≤ (alignDown s.sp - first).toNat) : Strayed s (s.enterOnce e saved none .nowhere) 8 first size ∧
      (s.enterOnce e saved none .nowhere).held = true ∧ (s.enterOnce e saved none .nowhere).slot = .none ∧
      (s.enterOnce e saved none .nowhere).pc = s.peek32 (s.vbr + e.vector <<< 2) := by
  have hdown := alignDown_toNat s.sp
  have hnext := alignDown_toNat (s.sp - 4)
  obtain ⟨hfirst, -⟩ := State.entryPush_strayed hsp hm hp hsize s.sr (by omega)
  have hplain : (s.entryPush s.sr).plain first size := by rw [State.plain, hfirst.cfg]; exact hp
  obtain ⟨hsecond, hheld⟩ := State.entryPush_strayed (by rw [hfirst.sp]; bv_omega) hfirst.memory hplain
    (by rw [hfirst.sp]; bv_omega) saved (by rw [hfirst.sp]; bv_omega)
  simp only [State.enterOnce, State.load32_ok hv, State.saveBank]
  exact ⟨(hfirst.trans hsecond).control _ _ _ _, hheld, trivial, trivial⟩

end Misaligned

/-! ### The address error that such an entry raises -/

theorem Exc.vector_offset (e : Exc) : e.vector <<< 2 = e.vector * 4 := BitVec.shiftLeft_eq_mul_twoPow e.vector 2

/-- Where no data access is forbidden and VBR is aligned, every vector may be read. -/
theorem State.canAccess_vector {s : State} (hd : s.cfg.dataForbidden = []) (hvbr : s.vbr &&& 3 = 0) (e : Exc) :
    s.canAccess 4 (s.vbr + e.vector <<< 2) = true := by
  rw [aligned_iff] at hvbr
  exact State.canAccess_unrestricted hd (by rw [e.vector_offset]; bv_omega)

/-- An entry whose own accesses fault, unless it is the address error's, is followed by that of the address error, whose
accesses are not accepted again (R727). -/
theorem State.raise_faulting {s : State} {e : Exc} {saved : Word}
    (h : (State.enterOnce { s with held := false } e saved none .nowhere).held = true) : s.raise e saved =
      if e = .cpuAddressError then
        { State.enterOnce { s with held := false } .cpuAddressError saved none .nowhere with held := false }
      else
        let t := State.enterOnce { s with held := false } e saved none .nowhere
        { State.enterOnce { t with held := false } .cpuAddressError t.pc none .nowhere with held := false } := by
  by_cases he : e = .cpuAddressError
  · simp only [State.raise, State.enter, he, if_true]
  · simp only [State.raise, State.enter, he, h, if_false, if_true]

/-- An exception on a misaligned stack ends in the handler of the CPU address error, R15 lower by the frame of one entry
or of two (R727). -/
theorem State.raise_strayed {s : State} {first : Word} {size : Nat} (hsp : s.sp.toNat % 4 ≠ 0) (hm : Memory.wf s.mem)
    (hp : s.plain first size) (hsize : (alignDown s.sp - first).toNat + 4 ≤ size) (hd : s.cfg.dataForbidden = [])
    (hvbr : s.vbr &&& 3 = 0) (hroom : 16 ≤ (alignDown s.sp - first).toNat)
    (hvector : ∀ b : Word, (b - (s.vbr + 36)).toNat < 4 → size ≤ (b - first).toNat) (e : Exc) (saved : Word) :
    Strayed s (s.raise e saved) (if e = .cpuAddressError then 8 else 16) first size ∧
      (s.raise e saved).held = false ∧ (s.raise e saved).slot = .none ∧
      (s.raise e saved).pc = s.peek32 (s.vbr + 36) := by
  obtain ⟨hfirst, hheld, hslot, hpc⟩ := State.enterOnce_strayed (s := { s with held := false }) (e := e) hsp hm hp
    hsize saved (State.canAccess_vector hd hvbr e) (Nat.le_trans (by decide) hroom)
  replace hfirst := hfirst.served
  rw [State.raise_faulting hheld]
  split
  · next he =>
    subst he
    exact ⟨hfirst.control _ _ _ false, rfl, hslot, hpc⟩
  · generalize State.enterOnce { s with held := false } e saved none .nowhere = t at hfirst
    have hsp' : t.sp = s.sp - 8 := hfirst.sp
    have hdown : (alignDown t.sp - first).toNat + 8 = (alignDown s.sp - first).toNat := by
      have := alignDown_toNat s.sp
      have := alignDown_toNat t.sp
      bv_omega
    have hplain : t.plain first size := by rw [State.plain, hfirst.cfg]; exact hp
    have hread : t.peek32 (s.vbr + 36) = s.peek32 (s.vbr + 36) :=
      State.peek32_congr fun b hb => hfirst.keep b (hvector b hb)
    obtain ⟨hsecond, -, hslot, hpc⟩ := State.enterOnce_strayed (s := { t with held := false })
      (e := .cpuAddressError) (by change t.sp.toNat % 4 ≠ 0; bv_omega) hfirst.memory hplain
      (by change (alignDown t.sp - first).toNat + 4 ≤ size; omega) t.pc
      (State.canAccess_vector (hfirst.cfg ▸ hd) (hfirst.vbr ▸ hvbr) _)
      (by change 8 ≤ (alignDown t.sp - first).toNat; omega)
    refine ⟨(hfirst.trans hsecond.served).control _ _ _ false, rfl, hslot, hpc.trans ?_⟩
    rw [← hread, ← hfirst.vbr]
    rfl

/-! ### SR after an entry -/

/-- An entry that gives a level writes IMASK alone (R716). -/
theorem State.sameStatus_setImask (s : State) (l : BitVec 4) : SameStatus s (s.setImask l) 0xF0 := by
  simp only [SameStatus, State.setImask_sr]
  ext i hi
  interval_cases i <;> simp

/-- The level of an entry into IMASK, where it gives one. -/
theorem State.sameStatus_level (s : State) (level : Option (BitVec 4)) :
    SameStatus s (level.elim s s.setImask) (if level.isSome then 0xF0 else 0) := by
  cases level with
  | none => rfl
  | some l => exact s.sameStatus_setImask l

/-- The vectors of the external interrupts and the peripheral modules are those of their sources (R711). -/
theorem sourceVector_eq (v : SourceVector) :
    Exc.vector (.interrupt (BitVec.ofNat 9 (64 + v.val))) = BitVec.ofNat 32 (64 + v.val) :=
  BitVec.setWidth_ofNat_of_le_of_lt (by decide) (by omega)

/-- Settles O52: an allowed entry as two pushes; the vectors by their table; a misaligned one as pushes that stray. -/
theorem exception_entry : Obligations.exception_entry := by
  unfold Obligations.exception_entry
  refine ⟨fun s e saved level t hallowed hm hp ht => ?allowed,
    ⟨rfl, rfl, rfl, rfl, rfl, rfl, rfl, rfl, rfl, rfl, rfl, rfl, rfl, fun _ => rfl,
      fun _ v => ⟨sourceVector_eq v, sourceVector_eq v⟩⟩,
    fun s e saved t hsp hd hm hp hvbr hapart ht => ?misaligned⟩
  case allowed =>
    obtain ⟨⟨m, honly⟩, hstackedSr, hstackedPc, hkeep⟩ := ht ▸ State.enter_entered hallowed hm hp saved level
    have himask (l : BitVec 4) (hl : level = some l) : t.imask = l := by
      rw [honly, hl]
      exact s.imask_setImask l
    rw [e.vector_offset] at honly
    clear ht
    subst honly
    exact ⟨rfl, State.reg_setReg_same s 15 _, hstackedSr, hstackedPc, s.sameStatus_level level, himask, rfl, rfl, rfl,
      hkeep, fun k hk => State.reg_setReg_other s 15 k _ (by simpa using hk), ⟨rfl, rfl⟩, fun _ _ => rfl,
      fun x _ => by cases x <;> rfl, ⟨rfl, rfl, rfl, rfl⟩⟩
  case misaligned =>
    rw [ne_eq, aligned_iff] at hsp
    change s.plain (alignDown (s.sp - 16)) 20 at hp
    have hdown : (alignDown s.sp - alignDown (s.sp - 16)).toNat = 16 := by
      have := alignDown_toNat s.sp
      have := alignDown_toNat (s.sp - 16)
      bv_omega
    have hout (b : Word) (hb : (b - (s.vbr + 36)).toNat < 4) : 20 ≤ (b - alignDown (s.reg 15 - 16)).toNat := by
      refine (outside_range_iff b _ 20).mp fun j hj => ?_
      have hvector : s.vbr + 36 + (b - (s.vbr + 36)) = b := by bv_omega
      have hne := hapart (b - (s.vbr + 36)).toNat j hb hj
      rwa [BitVec.ofNat_toNat, BitVec.setWidth_eq, hvector] at hne
    obtain ⟨⟨⟨m, c, pc, slot, power, held, honly⟩, -, hkeep⟩, hheld, hslot, hpc⟩ := State.raise_strayed hsp hm hp
      (by omega) hd hvbr (by omega) hout e saved
    rw [← ht] at honly hkeep hheld hslot hpc
    clear ht
    subst honly
    exact ⟨hpc, State.reg_setReg_same s 15 _, rfl, hheld, hslot, fun a ha => hkeep a ((outside_range_iff _ _ _).mp ha),
      fun k hk => State.reg_setReg_other s 15 k _ (by simpa using hk), ⟨rfl, rfl⟩, fun _ _ => rfl,
      fun x _ => by cases x <;> rfl, ⟨rfl, rfl, rfl, rfl⟩⟩

end Sys2Proof.Machine
